-- ==== Sys2Proof/Word.lean ====
section
/-! DEFINITION. The word types of the block (00_scope.md rule R9): every value is unsigned. -/

namespace Sys2Proof

/-- One byte of a FIFO, of the SPI bus or of the image (R9, R214). -/
abbrev Byte := BitVec 8

/-- One bit of a DEC register or of a command byte (R135). -/
abbrev Bit := BitVec 1

/-- The clock-rate selector's width (R136). -/
abbrev Rate := BitVec 3

/-- A word address of the target's program memory, 14 bits (R201). -/
abbrev WordAddr := BitVec 14

/-- SEQ's address counter, 15 bits, so that it can hold 16384 (R9, R104). -/
abbrev SeqAddr := BitVec 15

/-- A count of the write-then-read header, 16 bits (R9, R311). -/
abbrev Count := BitVec 16

end Sys2Proof
end

