-- ==== Sys2Proof/Config.lean ====
section
/-! DEFINITION. What an implementation fixes and what the spec leaves open: the OPEN parameters of
00_scope.md rule R8 and the draws of rule R15, each a constant with no body, so that a claim holds for
every value of it. The parameters the spec DECIDES (acks, opcodes, WTR_MAX, ...) stand in
Machine/Operands.lean. -/

namespace Sys2Proof

/-- Who takes the next step. The spec's agents run interleaved (R551, R736). The turn of `link` is the
draw that drops the link (R123). -/
inductive Agent where
  | seq
  | dec
  | link
deriving DecidableEq, Repr, Inhabited

/-- What DEC shows the target in one exchange, `rec` of R451: the select line, the configuration (`none`
is ⊥, not yet written: R135, R136) and the byte shifted out. R135, R455 and I15 name the enable bit among
what reaches the target; the tuples of R451 and R141 do not list it (DEDUCED, log entry 23). -/
structure BusRequest where
  csN : Bit
  cfgEn : Option Bit
  cpol : Option Bit
  cpha : Option Bit
  devsel : Option Bit
  speedSel : Option Rate
  mosi : Byte
deriving DecidableEq, Repr, Inhabited

/-- One record of the bus history `bus.log` (R141): the request and the target's answer. -/
structure Exchange where
  req : BusRequest
  miso : Byte
deriving DecidableEq, Repr, Inhabited

/-- One joint draw of DEC's SPI registers (R402, R421). -/
structure SpiDraw where
  csN : Bit
  cfgEn : Bit
  cfgCpol : Bit
  cfgCpha : Bit
  cfgDevsel : Bit
  speedSel : Rate
deriving DecidableEq, Repr, Inhabited

namespace Config

/-! ### OPEN parameters (R8) -/

/-- FILL_BYTE, what DEC shifts out in the read phase (R454, D11). -/
opaque fillByte : Byte

/-- ENTRY_THRESHOLD less one; the parameter is a positive natural number (R8, D14). -/
opaque entryThresholdLessOne : Nat

/-- ENTRY_THRESHOLD, how many ENTRY bytes in a row switch TERMINAL to BBIO (R401). -/
def entryThreshold : Nat := entryThresholdLessOne + 1

/-- CFG_DEVSEL, the device-select bit of the first session (R8, I20). -/
opaque cfgDevsel : Bit

/-- SPEED_SEL, the clock-rate selector of the first session (R8, I21). -/
opaque speedSel : Rate

/-- ADDR_SPACE_SIZE of the first session, in 0..16384 (R8, D28, I23). -/
opaque addrSpaceSize : Fin 16385

/-- RATE_TABLE, from selector to SPI clock rate; no rule reads it (R8, D6). -/
opaque rateTable : Rate → Nat

/-- PORT (R8, D37). -/
opaque port : String

/-- BAUD (R8, D37). -/
opaque baud : Nat

/-- TIMEOUT; no rule reads it, a timeout is a draw (R8, R731). -/
opaque readTimeout : Nat

/-! ### Draws (R15): each is applied to the counter `State.draws`, which every draw advances -/

/-- Whether `LinkOpen(PORT, BAUD)` fails (R560, I4). -/
opaque openFails : String → Nat → Nat → Bool

/-- Whether a `LinkRead` with fewer than n bytes present times out now (R124, I5). -/
opaque readTimesOut : Nat → Bool

/-- Which agent steps next. The value `link` is the loss of the link (R123, I6). -/
opaque nextTurn : Nat → Agent

/-- Terminal output `t` of R401 and R402 (I7). -/
opaque terminalOutput : Nat → List Byte

/-- The reply `t` of R405, R406, R419 and R421 (I10, I11, I12). -/
opaque unknownReply : Nat → List Byte

/-- DEC's SPI registers after R402 or R421 (I8, I12). -/
opaque spiRegisters : Nat → SpiDraw

/-- The bus records `L` of R421 (I12). -/
opaque desyncExchanges : Nat → List Exchange

/-- The draw `resync` of R421 (I12). -/
opaque resync : Nat → Bool

/-- TGT, the target: the answer to one exchange, given the bus history and the request (R451, R501).
No history occurs twice in a run, since every exchange lengthens it, so this admits every draw. -/
opaque tgt : List Exchange → BusRequest → Byte

end Config

end Sys2Proof
end

