-- ==== Sys2Proof/Machine/Operands.lean ====
section
/-! DEFINITION. Every operand form of the block: the decided parameter values (R8), the assembly and
extraction of command bytes (R303 to R311), the split of a word address (R202, R203) and the ISP
payloads (R312). No operand form needs the machine's state. -/

namespace Sys2Proof

/-! ### Decided parameters (00_scope.md rule R8; 30_encoding.md rules R306 and R308) -/

namespace Param

/-- The mode-entry byte (R306). -/
def entry : Byte := 0x00
/-- The bus-select byte (R306). -/
def spiSelect : Byte := 0x01
/-- The chip-select on byte (R306). -/
def csLow : Byte := 0x02
/-- The chip-select off byte (R306). -/
def csHigh : Byte := 0x03
/-- The write-then-read opcode (R306). -/
def wtr : Byte := 0x04
/-- The first byte of the mode-exit sequence (R306). -/
def exitBbio : Byte := 0x00
/-- The second byte of the mode-exit sequence (R306). -/
def resetTerm : Byte := 0x0F
/-- The high four bits of a CFG byte (R303). -/
def cfgGroup : BitVec 4 := 0x8
/-- The high five bits of a SPEED byte (R304). -/
def speedGroup : BitVec 5 := 0b01100

/-- ACK (R308). -/
def ack : List Byte := [0x01]
/-- NACK, the answer to a header whose count is too large (R308). -/
def nack : List Byte := [0x00]
/-- "BBIO1" (R210, R308). -/
def ackBbio : List Byte := [0x42, 0x42, 0x49, 0x4F, 0x31]
/-- "SPI1" (R210, R308). -/
def ackSpi : List Byte := [0x53, 0x50, 0x49, 0x31]
/-- The mode-exit sequence (R322 EXITSEQ, R572). -/
def exitSequence : List Byte := [exitBbio, resetTerm]

/-- WTR_MAX (R8, R316). -/
def wtrMax : Nat := 4096
/-- MAX_ENTRY_ATTEMPTS (R8, C1). -/
def maxEntryAttempts : Nat := 20
/-- EXPECTED_SIG (R8, R314). -/
def expectedSig : Vector Byte 3 := #v[0x1E, 0x95, 0x0F]
/-- PROGRESS_INTERVAL (R8, R570). -/
def progressInterval : Nat := 256
/-- CFG_EN (R8, D27). -/
def cfgEn : Bit := 1
/-- CFG_CPOL (R8, D27). -/
def cfgCpol : Bit := 0
/-- CFG_CPHA (R8, D27). -/
def cfgCpha : Bit := 0

end Param

/-! ### Fields of a byte (R10) -/

/-- `b[k]` as one bit (R10). -/
def byteBit (b : BitVec 8) (k : Nat) : BitVec 1 := b.extractLsb' k 1

/-! ### CFG and SPEED (R309, R310) -/

/-- `0x80 | E << 3 | P << 2 | H << 1 | D` (R309). -/
def cfgByte (e p h d : BitVec 1) : BitVec 8 :=
  0x80 ||| (e.setWidth 8 <<< 3) ||| (p.setWidth 8 <<< 2) ||| (h.setWidth 8 <<< 1) ||| d.setWidth 8

/-- `0x60 | (S & 0x7)` (R310). -/
def speedByte (r : BitVec 3) : BitVec 8 := 0x60 ||| (r.setWidth 8 &&& 0x07)

/-- The opcode bits 7..4 of a CFG byte (R303). -/
def cfgOpcode (b : BitVec 8) : BitVec 4 := b.extractLsb' 4 4

/-- The opcode bits 7..3 of a SPEED byte (R304). -/
def speedOpcode (b : BitVec 8) : BitVec 5 := b.extractLsb' 3 5

/-- The selector bits 2..0 of a SPEED byte (R304, R310). -/
def speedField (b : BitVec 8) : BitVec 3 := b.extractLsb' 0 3

/-! ### The write-then-read header (R311), big-endian (R211) -/

/-- `(hi << 8) | lo`, both zero-extended to 16 bits (R311). -/
def count (hi lo : BitVec 8) : BitVec 16 := (hi.setWidth 16 <<< 8) ||| lo.setWidth 16

/-- `header(N, M)` (R311). -/
def header (n m : BitVec 16) : List Byte :=
  [Param.wtr, n.extractLsb' 8 8, n.extractLsb' 0 8, m.extractLsb' 8 8, m.extractLsb' 0 8]

/-- `frame(p, M) = header(len(p), M) ++ p` (R311). -/
def frame (p : List Byte) (m : Count) : List Byte := header (BitVec.ofNat 16 p.length) m ++ p

/-! ### Word addresses (R202, R203) -/

/-- `decompose(a) = ((a >> 8) & 0xFF, a & 0xFF)` (R202). -/
def decompose (a : BitVec 15) : BitVec 8 × BitVec 8 :=
  (((a >>> 8) &&& 0xFF).setWidth 8, (a &&& 0xFF).setWidth 8)

/-- `recompose(segment, offset) = (zext_14(segment) << 8) | zext_14(offset)` (R203). -/
def recompose (segment offset : BitVec 8) : BitVec 14 :=
  (segment.setWidth 14 <<< 8) ||| offset.setWidth 14

/-- recompose is defined only for a segment up to 0x3F (R203). -/
def maxSegment : Byte := 0x3F

/-! ### ISP payloads (R312, R313) -/

/-- The first byte of RSIG (R312). -/
def rsigOpcode : Byte := 0x30
/-- The first byte of RDL (R312). -/
def rdlOpcode : Byte := 0x20
/-- The first byte of RDH (R312). -/
def rdhOpcode : Byte := 0x28

/-- PE's payload (R312). -/
def pePayload : List Byte := [0xAC, 0x53, 0x00, 0x00]

/-- RSIG i's payload (R312, R314): the index is sent unchanged as byte 2. -/
def rsigPayload (i : Byte) : List Byte := [rsigOpcode, 0x00, i]

/-- A flash read's payload, `[cmd, seg, off]` (R312). -/
def flashPayload (cmd : Byte) (a : SeqAddr) : List Byte :=
  [cmd, (decompose a).1, (decompose a).2]

/-- PE reads four bytes back (R312). -/
def peReads : Count := 4
/-- RSIG, RDL and RDH read one byte back (R312). -/
def oneRead : Count := 1

end Sys2Proof
end

