-- ==== Sys2Proof/Syntax.lean ====
section
/-! DEFINITION. The instructions: one constructor per row of spec/opcode_table.json, and the two pieces
of DEC's state that select how a link byte is decoded (R307). -/

namespace Sys2Proof

/-- DEC's mode (R131). -/
inductive Mode where
  | terminal
  | bbio
  | spi
  | desync
deriving DecidableEq, Repr, Inhabited

/-- DEC's frame parser (R133): idle; `hdr k acc`, k header bytes received, listed in acc; `data n m acc`,
a header with write count n and read count m accepted and the payload bytes acc received so far. -/
inductive Parse where
  | idle
  | hdr (k : Nat) (acc : List Byte)
  | data (n m : Count) (acc : List Byte)
deriving DecidableEq, Repr, Inhabited

/-- One instruction. The link commands (R307) are decoded by DEC from one byte in a mode; the ISP
instructions (R312) are carried as the payload of one write-then-read frame. The table's field `r` of an
ISP row is the byte READ (R313) and no operand. -/
inductive Instr where
  /-- T.ENTRY (R401) -/
  | tEntry
  /-- T.OTHER (R402) -/
  | tOther (b : Byte)
  /-- B.ENTRY (R403) -/
  | bEntry
  /-- B.SPI_SELECT (R404) -/
  | bSpiSelect
  /-- B.RESET_TERM (R405) -/
  | bResetTerm
  /-- B.UNDEF (R406) -/
  | bUndef (b : Byte)
  /-- S.EXIT_BBIO (R411) -/
  | sExitBbio
  /-- S.CS_LOW (R412) -/
  | sCsLow
  /-- S.CS_HIGH (R413) -/
  | sCsHigh
  /-- S.CFG (R414) -/
  | sCfg (e p h d : Bit)
  /-- S.SPEED (R415) -/
  | sSpeed (r : Rate)
  /-- S.WTR, the opcode byte (R416) -/
  | sWtr
  /-- S.WTR_HDR, one header byte (R417) -/
  | sWtrHdr (b : Byte)
  /-- S.WTR_DATA, one payload byte (R418) -/
  | sWtrData (b : Byte)
  /-- S.UNDEF (R419) -/
  | sUndef (b : Byte)
  /-- X.ANY (R421) -/
  | xAny (b : Byte)
  /-- ISP.PE (R502) -/
  | ispPe
  /-- ISP.RSIG i (R503) -/
  | ispRsig (i : BitVec 2)
  /-- ISP.RDL a (R504) -/
  | ispRdl (a : WordAddr)
  /-- ISP.RDH a (R505) -/
  | ispRdh (a : WordAddr)
deriving DecidableEq, Repr, Inhabited

end Sys2Proof
end

