-- ==== Sys2Proof/WellFormed.lean ====
section
/-! DEFINITION. Which terms of `Instr` an encoding stands for: the side conditions of the opcode map
(R307, R315) and of the signature index (R314). -/

namespace Sys2Proof

/-- A byte BBIO defines: 0x00, 0x01 or 0x0F (R315). -/
def bbioDefined (b : Byte) : Bool :=
  b == Param.entry || b == Param.spiSelect || b == Param.resetTerm

/-- A byte SPI mode defines with the parser idle: 0x00, 0x02, 0x03, 0x04, 0x60..0x67, 0x80..0x8F (R315). -/
def spiDefined (b : Byte) : Bool :=
  b == Param.exitBbio || b == Param.csLow || b == Param.csHigh || b == Param.wtr ||
    cfgOpcode b == Param.cfgGroup || speedOpcode b == Param.speedGroup

/-- The operand conditions of each row. -/
def Instr.wf : Instr → Bool
  | .tEntry => true
  | .tOther b => b != Param.entry
  | .bEntry => true
  | .bSpiSelect => true
  | .bResetTerm => true
  | .bUndef b => !bbioDefined b
  | .sExitBbio => true
  | .sCsLow => true
  | .sCsHigh => true
  | .sCfg _ _ _ _ => true
  | .sSpeed _ => true
  | .sWtr => true
  | .sWtrHdr _ => true
  | .sWtrData _ => true
  | .sUndef b => !spiDefined b
  | .xAny _ => true
  | .ispPe => true
  | .ispRsig i => i != 3
  | .ispRdl _ => true
  | .ispRdh _ => true

end Sys2Proof
end

