-- ==== Sys2Proof/Decode.lean ====
section
/-! DEFINITION. The decoders and, after them, the encoder. Three decoders, one for each level the spec
describes: a link byte by mode and parser (R307), a whole write-then-read frame (R305, R311, R319) and an
ISP payload (R312, R313). -/

namespace Sys2Proof

/-- Why a decoder gives no instruction. -/
inductive DecodeReject where
  /-- no byte to decode (R400: DEC is idle) -/
  | noByte
  /-- the first byte of a frame is not the WTR opcode (R305) -/
  | notAFrame
  /-- the frame's header or payload is not complete (R319) -/
  | truncatedFrame
  /-- a header with a count above WTR_MAX, which DEC refuses (R316) -/
  | countTooLarge
  /-- a payload and read count that are none of the four ISP instructions (R318) -/
  | reservedIsp
deriving DecidableEq, Repr, Inhabited

/-! ### ISP payloads (R312, R313, R318) -/

/-- The ISP instruction a frame with this payload and read count carries (R312); any other is reserved
(R318). -/
def decodeIsp (payload : List Byte) (m : Count) : Except DecodeReject Instr :=
  match payload with
  | [b0, b1, b2, b3] =>
    if [b0, b1, b2, b3] = pePayload ∧ m = peReads then .ok .ispPe else .error .reservedIsp
  | [b0, b1, b2] =>
    if m ≠ oneRead then .error .reservedIsp
    else if b0 = rsigOpcode ∧ b1 = 0x00 ∧ b2.toNat < 3 then .ok (.ispRsig (b2.setWidth 2))
    else if b0 = rdlOpcode ∧ b1 ≤ maxSegment then .ok (.ispRdl (recompose b1 b2))
    else if b0 = rdhOpcode ∧ b1 ≤ maxSegment then .ok (.ispRdh (recompose b1 b2))
    else .error .reservedIsp
  | _ => .error .reservedIsp

/-! ### Whole frames (R305, R311, R316, R319) -/

/-- Reads one frame from the head of a byte list: the read count, the payload and the rest. -/
def decodeFrame : List Byte → Except DecodeReject ((Count × List Byte) × List Byte)
  | op :: n1 :: n0 :: m1 :: m0 :: rest =>
    if op ≠ Param.wtr then .error .notAFrame
    else if (count n1 n0).toNat > Param.wtrMax ∨ (count m1 m0).toNat > Param.wtrMax then
      .error .countTooLarge
    else if rest.length < (count n1 n0).toNat then .error .truncatedFrame
    else .ok ((count m1 m0, rest.take (count n1 n0).toNat), rest.drop (count n1 n0).toNat)
  | op :: _ => if op ≠ Param.wtr then .error .notAFrame else .error .truncatedFrame
  | [] => .error .noByte

/-- The ISP instruction of one whole frame, and the rest of the bytes. -/
def decodeIspFrame (bs : List Byte) : Except DecodeReject (Instr × List Byte) :=
  match decodeFrame bs with
  | .error e => .error e
  | .ok ((m, p), rest) =>
    match decodeIsp p m with
    | .error e => .error e
    | .ok i => .ok (i, rest)

/-! ### One link byte (R307) -/

/-- The TERMINAL rows of R307. -/
def decodeTerminal (b : Byte) : Instr := if b = Param.entry then .tEntry else .tOther b

/-- The BBIO rows of R307. -/
def decodeBbio (b : Byte) : Instr :=
  if b = Param.entry then .bEntry
  else if b = Param.spiSelect then .bSpiSelect
  else if b = Param.resetTerm then .bResetTerm
  else .bUndef b

/-- The SPI rows of R307 with the parser idle. -/
def decodeSpiIdle (b : Byte) : Instr :=
  if b = Param.exitBbio then .sExitBbio
  else if b = Param.csLow then .sCsLow
  else if b = Param.csHigh then .sCsHigh
  else if cfgOpcode b = Param.cfgGroup then
    .sCfg (byteBit b 3) (byteBit b 2) (byteBit b 1) (byteBit b 0)
  else if speedOpcode b = Param.speedGroup then .sSpeed (speedField b)
  else if b = Param.wtr then .sWtr
  else .sUndef b

/-- The payload row of R307. The byte that completes a frame carrying one of the four ISP instructions is
read as that instruction (R312), any other payload byte as S.WTR_DATA (R418); the two meanings agree
where they meet (obligation PayloadBytes). -/
def decodePayload (n m : Count) (acc : List Byte) (b : Byte) : Instr :=
  if acc.length + 1 = n.toNat then
    match decodeIsp (acc ++ [b]) m with
    | .ok i => i
    | .error _ => .sWtrData b
  else .sWtrData b

/-- The opcode map R307: what DEC reads in a mode and a parser state. Every byte is some row. -/
def decodeLink : Mode → Parse → Byte → Instr
  | .terminal, _, b => decodeTerminal b
  | .bbio, _, b => decodeBbio b
  | .spi, .idle, b => decodeSpiIdle b
  | .spi, .hdr _ _, b => .sWtrHdr b
  | .spi, .data n m acc, b => decodePayload n m acc b
  | .desync, _, b => .xAny b

/-- DEC's decoder on a byte list: the next instruction and the rest (R400 consumes exactly one byte). -/
def decode (mode : Mode) (parse : Parse) : List Byte → Except DecodeReject (Instr × List Byte)
  | [] => .error .noByte
  | b :: rest => .ok (decodeLink mode parse b, rest)

/-! ### The encoder (R302 to R313) -/

/-- The bytes the host writes on the link for one instruction: one command byte, or the whole frame of an
ISP instruction (R311, R312). -/
def encode : Instr → List Byte
  | .tEntry => [Param.entry]
  | .tOther b => [b]
  | .bEntry => [Param.entry]
  | .bSpiSelect => [Param.spiSelect]
  | .bResetTerm => [Param.resetTerm]
  | .bUndef b => [b]
  | .sExitBbio => [Param.exitBbio]
  | .sCsLow => [Param.csLow]
  | .sCsHigh => [Param.csHigh]
  | .sCfg e p h d => [cfgByte e p h d]
  | .sSpeed r => [speedByte r]
  | .sWtr => [Param.wtr]
  | .sWtrHdr b => [b]
  | .sWtrData b => [b]
  | .sUndef b => [b]
  | .xAny b => [b]
  | .ispPe => frame pePayload peReads
  | .ispRsig i => frame (rsigPayload (i.setWidth 8)) oneRead
  | .ispRdl a => frame (flashPayload rdlOpcode (a.setWidth 15)) oneRead
  | .ispRdh a => frame (flashPayload rdhOpcode (a.setWidth 15)) oneRead

/-- The bytes an instruction puts on the SPI bus as payload, with its read count (R312); none for a link
command. -/
def ispFrame : Instr → Option (List Byte × Count)
  | .ispPe => some (pePayload, peReads)
  | .ispRsig i => some (rsigPayload (i.setWidth 8), oneRead)
  | .ispRdl a => some (flashPayload rdlOpcode (a.setWidth 15), oneRead)
  | .ispRdh a => some (flashPayload rdhOpcode (a.setWidth 15), oneRead)
  | .tEntry | .tOther _ | .bEntry | .bSpiSelect | .bResetTerm | .bUndef _ | .sExitBbio | .sCsLow
  | .sCsHigh | .sCfg _ _ _ _ | .sSpeed _ | .sWtr | .sWtrHdr _ | .sWtrData _ | .sUndef _ | .xAny _ => none

/-- The DEC state before the last byte of a frame: all of its payload but one byte received. -/
def lastByteContext (p : List Byte) (m : Count) : Mode × Parse :=
  (.spi, .data (BitVec.ofNat 16 p.length) m p.dropLast)

/-- One mode and parser state in which DEC reads the instruction's last byte as that instruction (R307). -/
def Instr.context : Instr → Mode × Parse
  | .tEntry | .tOther _ => (.terminal, .idle)
  | .bEntry | .bSpiSelect | .bResetTerm | .bUndef _ => (.bbio, .idle)
  | .sExitBbio | .sCsLow | .sCsHigh | .sCfg _ _ _ _ | .sSpeed _ | .sWtr | .sUndef _ => (.spi, .idle)
  | .sWtrHdr _ => (.spi, .hdr 0 [])
  | .sWtrData _ => (.spi, .data 2 0 [])
  | .xAny _ => (.desync, .idle)
  | .ispPe => lastByteContext pePayload peReads
  | .ispRsig i => lastByteContext (rsigPayload (i.setWidth 8)) oneRead
  | .ispRdl a => lastByteContext (flashPayload rdlOpcode (a.setWidth 15)) oneRead
  | .ispRdh a => lastByteContext (flashPayload rdhOpcode (a.setWidth 15)) oneRead

/-- The last byte of the encoding, the one whose consumption runs the instruction. -/
def lastByte (i : Instr) : Byte := (encode i).getLastD 0

/-! ### The opcode table's words -/

/-- The mode in which a one-byte table word is read by `decodeTableWord`: the mode of the row that fixes
the byte, the first in the table's order; TERMINAL, the mode after reset, for a byte no row fixes. -/
def tableMode (b : Byte) : Mode :=
  if b = Param.entry then .terminal
  else if b = Param.spiSelect ∨ b = Param.resetTerm then .bbio
  else if spiDefined b then .spi
  else .terminal

/-- The instruction read from a word of the opcode table. A one-byte row is read in `tableMode`. The
four-byte ISP rows are numbered with their first byte at bits 31..24; the last byte `r` of the 3-byte
forms is the byte read, whatever its value (R313). -/
def decodeTableWord (nbits w : Nat) : Option Instr :=
  if nbits = 8 then
    some (decodeLink (tableMode (BitVec.ofNat 8 w)) .idle (BitVec.ofNat 8 w))
  else if nbits = 32 then
    let v : BitVec 32 := BitVec.ofNat 32 w
    let b0 := v.extractLsb' 24 8
    let b1 := v.extractLsb' 16 8
    let b2 := v.extractLsb' 8 8
    let b3 := v.extractLsb' 0 8
    match decodeIsp [b0, b1, b2, b3] peReads with
    | .ok i => some i
    | .error _ =>
      match decodeIsp [b0, b1, b2] oneRead with
      | .ok i => some i
      | .error _ => none
  else none

end Sys2Proof
end

