-- ==== Sys2Proof/Machine/State.lean ====
section
/-! DEFINITION. The state of the block, agent by agent (10_state.md), its reset, and the reasons a step
can stop. Plain data throughout. -/

namespace Sys2Proof.Machine

/-- The image buffer's memory: (offset, byte) pairs, offsets strictly rising (R205). An offset that is not
listed has not been written and holds no value (R17, R208). -/
abbrev Memory := List Host.Cell

/-! ### SEQ (R101 to R113) -/

/-- SEQ's phases (R101). -/
inductive Phase where
  | idle
  | opening
  | entry
  | busSel
  | cfg
  | speed
  | csLow
  | pe
  | sig
  | rdl
  | rdh
  | csHigh
  | exit
  | close
  | doneOk
  | doneErr
deriving DecidableEq, Repr, Inhabited

/-- Where SEQ stands inside its phase (R551: a LinkWrite is a step, a LinkRead holds SEQ): at the phase's
start, in the read of the acknowledgment, or in the read of the reply after the acknowledgment `ack`. -/
inductive Point where
  | start
  | awaitAck
  | awaitReply (ack : List Byte)
deriving DecidableEq, Repr, Inhabited

/-- The error kinds (R701). -/
inductive ErrKind where
  | connection
  | protocol
  | identity
deriving DecidableEq, Repr, Inhabited

/-- The sub-causes (R701). -/
inductive ErrSub where
  | openFailed
  | linkLost
  | ackMismatch
  | shortRead
  | entryExhausted
  | sigMismatch
deriving DecidableEq, Repr, Inhabited

/-- The step identifiers (R706). -/
inductive StepId where
  | sOpen
  | sEntry
  | sBusSel
  | sCfg
  | sSpeed
  | sCsLow
  | sPe
  | sSig (i : Nat)
  | sRdl (a : Nat)
  | sRdh (a : Nat)
  | sCsHigh
  | sExit
deriving DecidableEq, Repr, Inhabited

/-- One element of an expected pattern: a byte, or ANY, a position that is not checked (R705). -/
inductive Pat where
  | byte (b : Byte)
  | any
deriving DecidableEq, Repr, Inhabited

/-- The error record `Err(kind, sub, step, expected, actual)` (R108, R705). -/
structure Err where
  kind : ErrKind
  sub : ErrSub
  step : StepId
  expected : List Pat
  actual : List Byte
deriving DecidableEq, Repr, Inhabited

/-- The session configuration `seq.cfg` (R113). ADDR_SPACE_SIZE is in 0..16384 (R8, D28). -/
structure SessionCfg where
  cfgEn : Bit
  cfgCpol : Bit
  cfgCpha : Bit
  cfgDevsel : Bit
  speedSel : Rate
  addrSpaceSize : Fin 16385
  expectedSig : Vector Byte 3
  maxEntryAttempts : Nat
deriving DecidableEq, Repr

/-- The observation events (R741). `sessionEnd none` is SessionEnd(OK). -/
inductive Event where
  | sessionStart (cfg : SessionCfg)
  | txBegin (step : StepId) (written : List Byte)
  | txEnd (step : StepId) (read : List Byte)
  | progress (n : Nat)
  | fault (e : Err)
  | sessionEnd (result : Option Err)
deriving DecidableEq, Repr

/-- SEQ's state. -/
structure Seq where
  /-- `seq.pc` (R101) -/
  pc : Phase
  /-- the position inside the phase that R551 implies -/
  point : Point
  /-- `seq.attempt` (R102) -/
  attempt : Nat
  /-- `seq.sig_idx`, in 0..3 (R103) -/
  sigIdx : Fin 4
  /-- `seq.addr` (R104) -/
  addr : SeqAddr
  /-- `seq.pe_reply`, `none` is ⊥ (R105) -/
  peReply : Option (List Byte)
  /-- `seq.sig_got`, `none` is ⊥ (R106) -/
  sigGot : Vector (Option Byte) 3
  /-- `seq.image` (R107, R205) -/
  image : Memory
  /-- `seq.err` (R108) -/
  err : Option Err
  /-- `seq.exit_count` (R109) -/
  exitCount : Nat
  /-- `seq.link_open` (R110) -/
  linkOpen : Bool
  /-- `seq.output`, `none` is ⊥ (R111) -/
  output : Option (List Byte)
  /-- `seq.trace` (R112) -/
  trace : List Event
  /-- `seq.cfg` (R113) -/
  cfg : SessionCfg
deriving DecidableEq, Repr

/-! ### LINK (R121 to R123) -/

/-- The byte channel. The head of a list is its oldest byte. -/
structure Link where
  /-- `link.h2d` (R121) -/
  h2d : List Byte
  /-- `link.d2h` (R122) -/
  d2h : List Byte
  /-- `link.up` (R123) -/
  up : Bool
deriving DecidableEq, Repr

/-! ### DEC (R131 to R137) -/

/-- DEC's state, all of it (R137). -/
structure Dec where
  /-- `dec.mode` (R131) -/
  mode : Mode
  /-- `dec.entry_run` (R132) -/
  entryRun : Nat
  /-- `dec.parse` (R133) -/
  parse : Parse
  /-- `dec.cs_n`, 0 is asserted (R134) -/
  csN : Bit
  /-- `dec.cfg_en`, `none` is ⊥ (R135) -/
  cfgEn : Option Bit
  /-- `dec.cfg_cpol` (R135) -/
  cfgCpol : Option Bit
  /-- `dec.cfg_cpha` (R135) -/
  cfgCpha : Option Bit
  /-- `dec.cfg_devsel` (R135) -/
  cfgDevsel : Option Bit
  /-- `dec.speed_sel` (R136) -/
  speedSel : Option Rate
deriving DecidableEq, Repr

/-! ### The SPI bus (R141) -/

/-- The bus: its history `bus.log`, oldest record first (R141). -/
structure Bus where
  log : List Exchange
deriving DecidableEq, Repr

/-! ### The whole state -/

/-- The state of the block. The last three fields are the model's own, not the spec's. -/
structure State where
  seq : Seq
  link : Link
  dec : Dec
  bus : Bus
  /-- whose turn the next step is (interleaving of R551 and R736) -/
  turn : Agent
  /-- how many draws have been taken (R15): the argument of the next one -/
  draws : Nat
  /-- the sessions the outside will start after the present one (R802, R714) -/
  sessions : List SessionCfg
deriving DecidableEq, Repr

/-! ### Why a step can stop -/

/-- The faults of the model. None is an error of SEQ: those are taken as R711 says and the machine goes
on. -/
inductive Fault where
  /-- Raised by `step` when SEQ is in a final phase, DEC has no byte and no further session is asked for:
  no agent has a step (R574, R811). Safe: the spec gives no next state. -/
  | runEnded
  /-- Raised by the meanings of S.WTR_HDR and S.WTR_DATA when the parser does not stand where R307 decodes
  that instruction. No step of the machine raises it. Safe: the spec gives the instruction only there. -/
  | parserMismatch
  /-- Raised by a phase of SEQ at a point, or with a signature index, that the phase does not have (R551,
  R567). No run from reset raises it. Safe: the spec gives no effect there. -/
  | sequencerMismatch
  /-- Raised by `Memory.read`, a read of the image beyond its length (R208, I3). Safe: the spec calls it a
  model fault. -/
  | imageUnwritten
  /-- Raised by `readWritten`, a read of an element that holds ⊥ (R17, I2). Safe: the spec calls it a fault
  of the model. -/
  | readUnwritten
deriving DecidableEq, Repr

/-- The refusals of the model. -/
inductive Refusal where
  /-- Raised by `exec` for an instruction that has no meaning yet; no arm does. Safe. -/
  | notModelled (mnemonic : String)
deriving DecidableEq, Repr

/-- What one step or meaning answers. -/
abbrev Result := Host.Outcome State Fault Refusal

/-! ### Reset (R151, R801, R802) -/

/-- The configuration of the first session: the decided values and the OPEN parameters of R8. -/
def SessionCfg.first : SessionCfg where
  cfgEn := Param.cfgEn
  cfgCpol := Param.cfgCpol
  cfgCpha := Param.cfgCpha
  cfgDevsel := Config.cfgDevsel
  speedSel := Config.speedSel
  addrSpaceSize := Config.addrSpaceSize
  expectedSig := Param.expectedSig
  maxEntryAttempts := Param.maxEntryAttempts

/-- SEQ at a session's start (R802). -/
def Seq.sessionStart (c : SessionCfg) : Seq where
  pc := .idle
  point := .start
  attempt := 0
  sigIdx := 0
  addr := 0
  peReply := none
  sigGot := #v[none, none, none]
  image := []
  err := none
  exitCount := 0
  linkOpen := false
  output := none
  trace := []
  cfg := c

/-- The link at power-on (R801). -/
def Link.powerOn : Link where
  h2d := []
  d2h := []
  up := false

/-- DEC at power-on (R801). -/
def Dec.powerOn : Dec where
  mode := .terminal
  entryRun := 0
  parse := .idle
  csN := 1
  cfgEn := none
  cfgCpol := none
  cfgCpha := none
  cfgDevsel := none
  speedSel := none

/-- The bus at power-on (R801). -/
def Bus.powerOn : Bus where
  log := []

/-- The machine right after power-on, at the start of its first session (R151, R801, R802). -/
def State.reset : State where
  seq := Seq.sessionStart SessionCfg.first
  link := Link.powerOn
  dec := Dec.powerOn
  bus := Bus.powerOn
  turn := .seq
  draws := 0
  sessions := []

end Sys2Proof.Machine
end

