-- ==== Sys2Proof/Machine/Flags.lean ====
section
/-! DEFINITION. The block has no flags, condition codes or predicates (R153). What a run reports is
`seq.err` (R108): the checks that decide it (R552, R553, R708), its codes (R701), its patterns (R705) and
its operator text (R707). -/

namespace Sys2Proof.Machine

/-- The kind of each sub-cause (R701). -/
def ErrSub.kind : ErrSub → ErrKind
  | .openFailed => .connection
  | .linkLost => .connection
  | .ackMismatch => .protocol
  | .shortRead => .protocol
  | .entryExhausted => .protocol
  | .sigMismatch => .identity

/-- The numeric code of each sub-cause, major and minor (R701). -/
def ErrSub.code : ErrSub → Nat × Nat
  | .openFailed => (1, 1)
  | .linkLost => (1, 2)
  | .ackMismatch => (2, 1)
  | .shortRead => (2, 2)
  | .entryExhausted => (2, 3)
  | .sigMismatch => (3, 1)

/-- An expected constant as a pattern. -/
def exactly (bs : List Byte) : List Pat := bs.map Pat.byte

/-- ANY^m, m positions that are not checked (R553, R705). -/
def anyBytes (m : Nat) : List Pat := List.replicate m .any

/-- An error record of the kind its sub-cause has (R701, R705). -/
def Err.of (sub : ErrSub) (step : StepId) (expected : List Pat) (actual : List Byte) : Err where
  kind := sub.kind
  sub := sub
  step := step
  expected := expected
  actual := actual

/-- CONNECTION(LINK_LOST, step, [], []) (R124, R702). -/
def linkLostAt (step : StepId) : Err := Err.of .linkLost step [] []

/-- The check of one constant reply, in the order of R708: too short, then different (R552, R553). `none`
is success. -/
def checkReply (step : StepId) (expected actual : List Byte) : Option Err :=
  if actual.length < expected.length then some (Err.of .shortRead step (exactly expected) actual)
  else if actual ≠ expected then some (Err.of .ackMismatch step (exactly expected) actual)
  else none

/-- The text an error at S_CSLOW or S_CSHIGH carries; no other error carries text (R707). -/
def Err.operatorText (e : Err) : Option String :=
  match e.step with
  | .sCsLow | .sCsHigh => some "cannot switch chip-select"
  | .sOpen | .sEntry | .sBusSel | .sCfg | .sSpeed | .sPe | .sSig _ | .sRdl _ | .sRdh _ | .sExit => none

end Sys2Proof.Machine
end

