-- ==== Sys2Proof/Machine/Ops.lean ====
section
/-! DEFINITION. The named operations over the state: the image memory (R13, R207, R208), the link
(R14, R124), DEC's registers, replies and bus history, SEQ's registers and trace, the raising of an error
(R711) and the start of a session (R802). -/

namespace Sys2Proof.Machine

/-! ### Outcomes -/

/-- Continues an outcome that has a next state. -/
def andThen (o : Result) (f : State → Result) : Result :=
  match o with
  | .next s => f s
  | .fault r => .fault r
  | .refused r => .refused r

/-! ### The image memory (R13, R205, R207, R208) -/

namespace Memory

/-- The canonical form: offsets strictly rising. No offset that is not listed reads as a value, so there is
no default entry to leave out. -/
def wf : Memory → Bool
  | [] => true
  | [_] => true
  | c :: d :: rest => decide (c.1 < d.1) && wf (d :: rest)

/-- The byte at an offset, if it has been written. -/
def readByte : Memory → Nat → Option Byte
  | [], _ => none
  | c :: rest, a => if c.1 = a then some c.2 else readByte rest a

/-- Writes one byte and keeps the canonical form. -/
def writeByte : Memory → Nat → Byte → Memory
  | [], a, b => [(a, b)]
  | c :: rest, a, b =>
    if a < c.1 then (a, b) :: c :: rest
    else if a = c.1 then (a, b) :: rest
    else c :: writeByte rest a b

/-- The n bytes from an offset on, each of which must have been written (R17). -/
def readFrom (m : Memory) (a : Nat) : Nat → Except Fault (List Byte)
  | 0 => .ok []
  | n + 1 =>
    match m.readByte a with
    | none => .error .imageUnwritten
    | some b =>
      match readFrom m (a + 1) n with
      | .error e => .error e
      | .ok bs => .ok (b :: bs)

/-- `MemRead(addr, n)` (R13), defined only for addr + n up to the image's length (R208). -/
def read (m : Memory) (a n : Nat) : Except Fault (List Byte) :=
  if a + n ≤ m.length then m.readFrom a n else .error .imageUnwritten

/-- `MemWrite(addr, n, v)`, the least significant byte at the lowest offset (R13). -/
def write (m : Memory) (a : Nat) : Nat → Nat → Memory
  | 0, _ => m
  | n + 1, v => write (m.writeByte a (BitVec.ofNat 8 v)) (a + 1) n (v / 256)

/-- The image as the flat byte sequence of R209. -/
def bytes (m : Memory) : List Byte := m.map Prod.snd

end Memory

/-- A read of an element that may hold ⊥ (R17): reading ⊥ is a fault of the model. -/
def readWritten {α : Type} : Option α → Except Fault α
  | none => .error .readUnwritten
  | some v => .ok v

namespace State

/-! ### Draws (R15) -/

/-- Takes the draws of this point: the counter moves on. -/
def tick (s : State) : State := { s with draws := s.draws + 1 }

/-! ### DEC -/

/-- `Reply(bs)` (40_decoder.md). -/
def reply (s : State) (bs : List Byte) : State :=
  { s with link := { s.link with d2h := s.link.d2h ++ bs } }

/-- Takes the oldest byte of `link.h2d` away (R400). -/
def setH2d (s : State) (bs : List Byte) : State := { s with link := { s.link with h2d := bs } }

/-- A change of `dec.mode`, which sets `dec.parse` to IDLE (R133). -/
def setMode (s : State) (m : Mode) : State :=
  { s with dec := { s.dec with mode := m, parse := .idle } }

/-- Writes `dec.parse` (R133). -/
def setParse (s : State) (p : Parse) : State := { s with dec := { s.dec with parse := p } }

/-- Writes `dec.entry_run` (R132). -/
def setEntryRun (s : State) (n : Nat) : State := { s with dec := { s.dec with entryRun := n } }

/-- Drives the select line (R134). -/
def setCsN (s : State) (c : Bit) : State := { s with dec := { s.dec with csN := c } }

/-- Writes the four configuration fields (R135). -/
def setCfg (s : State) (e p h d : Bit) : State :=
  { s with dec := { s.dec with cfgEn := some e, cfgCpol := some p, cfgCpha := some h, cfgDevsel := some d } }

/-- Writes `dec.speed_sel` (R136). -/
def setSpeed (s : State) (r : Rate) : State := { s with dec := { s.dec with speedSel := some r } }

/-- Gives DEC's six SPI registers the values of one joint draw (R402, R421). -/
def setSpi (s : State) (d : SpiDraw) : State :=
  ((s.setCsN d.csN).setCfg d.cfgEn d.cfgCpol d.cfgCpha d.cfgDevsel).setSpeed d.speedSel

/-- Appends records to the bus history (R141). -/
def logExchanges (s : State) (rs : List Exchange) : State := { s with bus := { log := s.bus.log ++ rs } }

/-- `rec` of R451, with all four configuration fields (R135, R455): what DEC shows the target when it shifts
`mosi` out. -/
def request (s : State) (mosi : Byte) : BusRequest where
  csN := s.dec.csN
  cfgEn := s.dec.cfgEn
  cpol := s.dec.cfgCpol
  cpha := s.dec.cfgCpha
  devsel := s.dec.cfgDevsel
  speedSel := s.dec.speedSel
  mosi := mosi

/-! ### SEQ -/

/-- `emit Ev(...)` (R16, R741). -/
def emit (s : State) (e : Event) : State := { s with seq := { s.seq with trace := s.seq.trace ++ [e] } }

/-- `seq.pc <- p`: the phase begins at its start (R12, R101). -/
def goto (s : State) (p : Phase) : State := { s with seq := { s.seq with pc := p, point := .start } }

/-- Moves SEQ inside its phase (R551). -/
def setPoint (s : State) (p : Point) : State := { s with seq := { s.seq with point := p } }

/-- Writes `seq.attempt` (R102). -/
def setAttempt (s : State) (n : Nat) : State := { s with seq := { s.seq with attempt := n } }

/-- Writes `seq.sig_idx` (R103). -/
def setSigIdx (s : State) (i : Fin 4) : State := { s with seq := { s.seq with sigIdx := i } }

/-- Writes `seq.addr` (R104). -/
def setAddr (s : State) (a : SeqAddr) : State := { s with seq := { s.seq with addr := a } }

/-- Writes `seq.pe_reply` (R105). -/
def setPeReply (s : State) (r : List Byte) : State := { s with seq := { s.seq with peReply := some r } }

/-- Writes `seq.sig_got[i]` (R106). -/
def setSigGot (s : State) (i : Fin 3) (b : Byte) : State :=
  { s with seq := { s.seq with sigGot := s.seq.sigGot.set i (some b) } }

/-- Writes `seq.exit_count` (R109). -/
def setExitCount (s : State) (n : Nat) : State := { s with seq := { s.seq with exitCount := n } }

/-- Writes `seq.link_open` (R110). -/
def setLinkOpen (s : State) (b : Bool) : State := { s with seq := { s.seq with linkOpen := b } }

/-- Publishes `seq.output` (R111). -/
def setOutput (s : State) (bs : List Byte) : State := { s with seq := { s.seq with output := some bs } }

/-- Records an error in `seq.err` if none is recorded (R108, R711). -/
def recordErr (s : State) (e : Err) : State := { s with seq := { s.seq with err := s.seq.err.or (some e) } }

/-- `ImgAppend(b) = MemWrite(len(seq.image), 1, b)` (R207). -/
def imgAppend (s : State) (b : Byte) : State :=
  { s with seq := { s.seq with image := s.seq.image.write s.seq.image.length 1 b.toNat } }

/-! ### Taking an error (R711), the only exception of the block -/

/-- Where an error sends SEQ: nowhere to send the exit sequence, not sent yet, or sent already (R711). -/
def teardownPhase (s : State) : Phase :=
  if s.seq.linkOpen = false then .doneErr
  else if s.seq.exitCount = 0 then .exit
  else .close

/-- `raise K(sub, step, expected, actual)` (R711): the first error is recorded, the Fault event is emitted
and SEQ goes to its teardown. There is no return from an error (R714). -/
def raise (s : State) (e : Err) : State := ((s.recordErr e).emit (.fault e)).goto s.teardownPhase

/-- The start of a new session (R802): every SEQ element takes its reset value, and DEC, the link and the
bus keep theirs (R803). -/
def startSession (s : State) (c : SessionCfg) : State := { s with seq := Seq.sessionStart c }

/-! ### LINK (R123, R124) -/

/-- Appends bytes to `link.h2d` (R121). -/
def pushH2d (s : State) (bs : List Byte) : State :=
  { s with link := { s.link with h2d := s.link.h2d ++ bs } }

/-- Writes `link.d2h`. -/
def setD2h (s : State) (bs : List Byte) : State := { s with link := { s.link with d2h := bs } }

/-- A successful `LinkOpen()` (R123). -/
def linkOpened (s : State) : State := { s with link := { h2d := [], d2h := [], up := true } }

/-- `LinkClose()`: the link goes down, and the bytes SEQ has not read are discarded (R123, R573, D39). -/
def linkClose (s : State) : State := { s with link := { s.link with d2h := [], up := false } }

/-- The loss of the link (R123): a link that is up falls; nothing else changes. -/
def linkDrop (s : State) : State := { s with link := { s.link with up := false } }

end State

/-- `LinkWrite(bs)` followed by the rest of the phase (R124): on a link that is down, LINK_LOST ends the
phase. -/
def linkWrite (step : StepId) (bs : List Byte) (s : State) (rest : State → State) : State :=
  if s.link.up then rest (s.pushH2d bs) else s.raise (linkLostAt step)

/-- What one attempt to complete a `LinkRead` finds (R124). -/
inductive ReadResult where
  /-- the link is down -/
  | lost
  /-- fewer than n bytes are present and the timeout has not fired: SEQ holds -/
  | holding (s : State)
  /-- the read returns these bytes -/
  | got (bs : List Byte) (s : State)
deriving DecidableEq, Repr

/-- `LinkRead(n)` at one moment (R124). The timeout is a draw, taken only while fewer than n bytes are
present. -/
def linkRead (n : Nat) (s : State) : ReadResult :=
  if s.link.up = false then .lost
  else if n ≤ s.link.d2h.length then .got (s.link.d2h.take n) (s.setD2h (s.link.d2h.drop n))
  else if Config.readTimesOut s.draws then .got s.link.d2h (s.setD2h []).tick
  else .holding s.tick

/-- A `LinkRead` inside a phase: a lost link ends the phase with LINK_LOST, a pending read leaves SEQ where
it is, and a complete or short one goes on (R124). -/
def onRead (step : StepId) (n : Nat) (s : State) (rest : List Byte → State → State) : State :=
  match linkRead n s with
  | .lost => s.raise (linkLostAt step)
  | .holding s' => s'
  | .got bs s' => rest bs s'

/-! ### The SPI master (R451 to R453) -/

/-- `Exchange(mosi)` (R451): the target's answer, and the state with the record appended. -/
def exchange (mosi : Byte) (s : State) : Byte × State :=
  let miso := Config.tgt s.bus.log (s.request mosi)
  (miso, s.logExchanges [{ req := s.request mosi, miso := miso }])

/-- The write phase of R453: the payload in order, every answer discarded. -/
def writePhase : List Byte → State → State
  | [], s => s
  | b :: rest, s => writePhase rest (exchange b s).2

/-- The read phase of R453: FILL_BYTE m times, every answer kept, in bus order. -/
def readPhase : Nat → State → List Byte × State
  | 0, s => ([], s)
  | m + 1, s =>
    let x := exchange Config.fillByte s
    let r := readPhase m x.2
    (x.1 :: r.1, r.2)

/-- `WTRExecute(p, M)` (R453): write phase, read phase, then the reply `[0x01] ++ r`. -/
def wtrExecute (p : List Byte) (m : Nat) (s : State) : State :=
  let r := readPhase m (writePhase p s)
  r.2.reply (Param.ack ++ r.1)

/-- The completion of a frame (R417, R418): the parser is idle and the transfer runs. -/
def completeFrame (p : List Byte) (m : Count) (s : State) : State :=
  wtrExecute p m.toNat (s.setParse .idle)

end Sys2Proof.Machine
end

