-- ==== Sys2Proof/Machine/Bbio.lean ====
section
/-! DEFINITION. The BBIO family: B.ENTRY (R403), B.SPI_SELECT (R404), B.RESET_TERM (R405), B.UNDEF (R406). -/

namespace Sys2Proof.Machine

/-- B.ENTRY (R403): one "BBIO1", nothing else. -/
def execBEntry (s : State) : Result := .next (s.reply Param.ackBbio)

/-- B.SPI_SELECT (R404): SPI mode, reply "SPI1". -/
def execBSpiSelect (s : State) : Result := .next ((s.setMode .spi).reply Param.ackSpi)

/-- B.RESET_TERM (R405): TERMINAL mode with the run at 0 and chip-select released; the reply is drawn. -/
def execBResetTerm (s : State) : Result :=
  .next (((((s.setMode .terminal).setEntryRun 0).setCsN 1).reply (Config.unknownReply s.draws)).tick)

/-- B.UNDEF (R406): DESYNC; the reply is drawn. The byte's value selects nothing. -/
def execBUndef (_b : Byte) (s : State) : Result :=
  .next (((s.setMode .desync).reply (Config.unknownReply s.draws)).tick)

end Sys2Proof.Machine
end

