-- ==== Sys2Proof/Machine/Desync.lean ====
section
/-! DEFINITION. The DESYNC family: X.ANY (R421). -/

namespace Sys2Proof.Machine

/-- X.ANY (R421): SPI registers, bus records and reply are drawn; a 0x00 may, by a draw, resynchronise to
BBIO with "BBIO1". -/
def execXAny (b : Byte) (s : State) : Result :=
  let u := (s.setSpi (Config.spiRegisters s.draws)).logExchanges (Config.desyncExchanges s.draws)
  let t := Config.unknownReply s.draws
  .next (if b = Param.entry ∧ Config.resync s.draws = true then
      ((u.setMode .bbio).reply (t ++ Param.ackBbio)).tick
    else (u.reply t).tick)

end Sys2Proof.Machine
end

