-- ==== Sys2Proof/Machine/Isp.lean ====
section
/-! DEFINITION. The ISP family: ISP.PE (R502), ISP.RSIG (R503), ISP.RDL (R504), ISP.RDH (R505). Each is the
completion of the frame that carries it (R312, R418): its exchanges on the bus and its reply. -/

namespace Sys2Proof.Machine

/-- ISP.PE (R502): eight exchanges, reply `[0x01, r0, r1, r2, r3]`. -/
def execIspPe (s : State) : Result := .next (completeFrame pePayload peReads s)

/-- ISP.RSIG i (R503): four exchanges, reply `[0x01, s]`. -/
def execIspRsig (i : BitVec 2) (s : State) : Result :=
  .next (completeFrame (rsigPayload (i.setWidth 8)) oneRead s)

/-- ISP.RDL a (R504): four exchanges, reply `[0x01, v]`. -/
def execIspRdl (a : WordAddr) (s : State) : Result :=
  .next (completeFrame (flashPayload rdlOpcode (a.setWidth 15)) oneRead s)

/-- ISP.RDH a (R505): four exchanges, reply `[0x01, v]`. -/
def execIspRdh (a : WordAddr) (s : State) : Result :=
  .next (completeFrame (flashPayload rdhOpcode (a.setWidth 15)) oneRead s)

end Sys2Proof.Machine
end

