-- ==== Sys2Proof/Machine/Spi.lean ====
section
/-! DEFINITION. The SPI family with the parser idle: S.EXIT_BBIO (R411), S.CS_LOW (R412), S.CS_HIGH (R413),
S.CFG (R414), S.SPEED (R415), S.UNDEF (R419). -/

namespace Sys2Proof.Machine

/-- S.EXIT_BBIO (R411): BBIO mode, chip-select released, reply "BBIO1". -/
def execSExitBbio (s : State) : Result :=
  .next (((s.setMode .bbio).setCsN 1).reply Param.ackBbio)

/-- S.CS_LOW (R412). -/
def execSCsLow (s : State) : Result := .next ((s.setCsN 0).reply Param.ack)

/-- S.CS_HIGH (R413). -/
def execSCsHigh (s : State) : Result := .next ((s.setCsN 1).reply Param.ack)

/-- S.CFG (R414): every one of the 16 values is accepted. -/
def execSCfg (e p h d : Bit) (s : State) : Result := .next ((s.setCfg e p h d).reply Param.ack)

/-- S.SPEED (R415): every one of the 8 selectors is accepted. -/
def execSSpeed (r : Rate) (s : State) : Result := .next ((s.setSpeed r).reply Param.ack)

/-- S.UNDEF (R419): DESYNC; the reply is drawn. The byte's value selects nothing. -/
def execSUndef (_b : Byte) (s : State) : Result :=
  .next (((s.setMode .desync).reply (Config.unknownReply s.draws)).tick)

end Sys2Proof.Machine
end

