-- ==== Sys2Proof/Machine/Terminal.lean ====
section
/-! DEFINITION. The TERMINAL family: T.ENTRY (R401) and T.OTHER (R402). -/

namespace Sys2Proof.Machine

/-- T.ENTRY (R401): the run grows; at ENTRY_THRESHOLD DEC enters BBIO and answers "BBIO1" after its terminal
output. -/
def execTEntry (s : State) : Result :=
  let t := Config.terminalOutput s.draws
  .next (if Config.entryThreshold ≤ s.dec.entryRun + 1 then
      (((s.setMode .bbio).setEntryRun 0).reply (t ++ Param.ackBbio)).tick
    else ((s.setEntryRun (s.dec.entryRun + 1)).reply t).tick)

/-- T.OTHER (R402): the run ends, the SPI registers are drawn and the reply is drawn. The byte's value
selects nothing. -/
def execTOther (_b : Byte) (s : State) : Result :=
  .next ((((s.setEntryRun 0).setSpi (Config.spiRegisters s.draws)).reply
    (Config.terminalOutput s.draws)).tick)

end Sys2Proof.Machine
end

