-- ==== Sys2Proof/Machine/Transfer.lean ====
section
/-! DEFINITION. The write-then-read frame: S.WTR (R416), S.WTR_HDR (R417), S.WTR_DATA (R418). -/

namespace Sys2Proof.Machine

/-- S.WTR (R416): the header begins; no reply. -/
def execSWtr (s : State) : Result := .next (s.setParse (.hdr 0 []))

/-- A complete header with write count n and read count m (R417): refused with NACK above WTR_MAX,
executed at once for n = 0, otherwise the payload follows. -/
def acceptHeader (n m : Count) (s : State) : State :=
  if Param.wtrMax < n.toNat ∨ Param.wtrMax < m.toNat then (s.setParse .idle).reply Param.nack
  else if n = 0 then completeFrame [] m s
  else s.setParse (.data n m [])

/-- S.WTR_HDR (R417): the (k+1)-th header byte. -/
def execSWtrHdr (b : Byte) (s : State) : Result :=
  match s.dec.parse with
  | .hdr k acc =>
    if k + 1 < 4 then .next (s.setParse (.hdr (k + 1) (acc ++ [b])))
    else
      match acc ++ [b] with
      | [n1, n0, m1, m0] => .next (acceptHeader (count n1 n0) (count m1 m0) s)
      | _ => .fault .parserMismatch
  | .idle => .fault .parserMismatch
  | .data _ _ _ => .fault .parserMismatch

/-- S.WTR_DATA (R418): the next payload byte; the last one runs the transfer. -/
def execSWtrData (b : Byte) (s : State) : Result :=
  match s.dec.parse with
  | .data n m acc =>
    .next (if (acc ++ [b]).length = n.toNat then completeFrame (acc ++ [b]) m s
      else s.setParse (.data n m (acc ++ [b])))
  | .idle => .fault .parserMismatch
  | .hdr _ _ => .fault .parserMismatch

end Sys2Proof.Machine
end

