-- ==== Sys2Proof/Machine/Dispatch.lean ====
section
/-! DEFINITION. The dispatch: one arm per instruction. -/

namespace Sys2Proof.Machine

def exec (i : Instr) (s : State) : Host.Outcome State Fault Refusal :=
  match i with
  | .tEntry => Sys2Proof.Machine.execTEntry s
  | .tOther b => Sys2Proof.Machine.execTOther b s
  | .bEntry => Sys2Proof.Machine.execBEntry s
  | .bSpiSelect => Sys2Proof.Machine.execBSpiSelect s
  | .bResetTerm => Sys2Proof.Machine.execBResetTerm s
  | .bUndef b => Sys2Proof.Machine.execBUndef b s
  | .sExitBbio => Sys2Proof.Machine.execSExitBbio s
  | .sCsLow => Sys2Proof.Machine.execSCsLow s
  | .sCsHigh => Sys2Proof.Machine.execSCsHigh s
  | .sCfg e p h d => Sys2Proof.Machine.execSCfg e p h d s
  | .sSpeed r => Sys2Proof.Machine.execSSpeed r s
  | .sWtr => Sys2Proof.Machine.execSWtr s
  | .sWtrHdr b => Sys2Proof.Machine.execSWtrHdr b s
  | .sWtrData b => Sys2Proof.Machine.execSWtrData b s
  | .sUndef b => Sys2Proof.Machine.execSUndef b s
  | .xAny b => Sys2Proof.Machine.execXAny b s
  | .ispPe => Sys2Proof.Machine.execIspPe s
  | .ispRsig k => Sys2Proof.Machine.execIspRsig k s
  | .ispRdl a => Sys2Proof.Machine.execIspRdl a s
  | .ispRdh a => Sys2Proof.Machine.execIspRdh a s

end Sys2Proof.Machine
end

