-- ==== Sys2Proof/Machine/Sequencer.lean ====
section
/-! DEFINITION. SEQ, the ISP sequencer (43_sequencer.md): the two transaction primitives (R552, R553), one
definition per phase (R559 to R573) and SEQ's step. A phase that reads is taken in several steps: its
write, then each of its reads (R551). -/

namespace Sys2Proof.Machine

/-! ### The transaction primitives -/

/-- The first step of a transaction: TxBegin, then the write (R552, R553, R561). -/
def beginTx (step : StepId) (bs : List Byte) (s : State) : State :=
  linkWrite step bs (s.emit (.txBegin step bs)) (fun s => s.setPoint .awaitAck)

/-- The end of a control transaction, once its read returned r: TxEnd, then the checks (R552). -/
def endCtrl (step : StepId) (expected : List Byte) (next : Phase) (r : List Byte) (s : State) : State :=
  match checkReply step expected r with
  | some e => (s.emit (.txEnd step r)).raise e
  | none => (s.emit (.txEnd step r)).goto next

/-- `Ctrl(step, c, expected)`, then the phase `next` (R552). -/
def ctrl (step : StepId) (c : Byte) (expected : List Byte) (next : Phase) (s : State) : Result :=
  match s.seq.point with
  | .start => .next (beginTx step [c] s)
  | .awaitAck => .next (onRead step expected.length s (endCtrl step expected next))
  | .awaitReply _ => .fault .sequencerMismatch

/-- The acknowledgment of a framed transaction, once its read returned a: on success the reply is read
next (R553). -/
def xferAck (step : StepId) (a : List Byte) (s : State) : State :=
  match checkReply step Param.ack a with
  | some e => (s.emit (.txEnd step a)).raise e
  | none => s.setPoint (.awaitReply a)

/-- The end of a framed transaction, once its reply read returned r: TxEnd, the length check, then the
rest of the phase with the m bytes (R553). -/
def xferReply (step : StepId) (m : Nat) (a : List Byte) (rest : List Byte → State → State)
    (r : List Byte) (s : State) : State :=
  if r.length < m then
    (s.emit (.txEnd step (a ++ r))).raise (Err.of .shortRead step (anyBytes m) r)
  else rest r (s.emit (.txEnd step (a ++ r)))

/-- `Xfer(step, p, m)`, then the rest of the phase with the m reply bytes (R553). -/
def xfer (step : StepId) (p : List Byte) (m : Count) (rest : List Byte → State → State) (s : State) :
    Result :=
  match s.seq.point with
  | .start => .next (beginTx step (frame p m) s)
  | .awaitAck => .next (onRead step 1 s (xferAck step))
  | .awaitReply a => .next (onRead step m.toNat s (xferReply step m.toNat a rest))

/-! ### The phases -/

/-- P_IDLE (R559). -/
def phaseIdle (s : State) : Result := .next ((s.emit (.sessionStart s.seq.cfg)).goto .opening)

/-- P_OPEN (R560): whether the open fails is a draw. -/
def phaseOpen (s : State) : Result :=
  .next (if Config.openFails Config.port Config.baud s.draws then
      s.tick.raise (Err.of .openFailed .sOpen [] [])
    else ((s.tick.linkOpened).setLinkOpen true).goto .entry)

/-- The end of one entry attempt, once its read returned r (R561): a short or wrong reply is discarded and
tried again, up to MAX_ENTRY_ATTEMPTS. -/
def endEntry (r : List Byte) (s : State) : State :=
  let u := s.emit (.txEnd .sEntry r)
  if r = Param.ackBbio then u.goto .busSel
  else if u.seq.attempt < u.seq.cfg.maxEntryAttempts then u.goto .entry
  else u.raise (Err.of .entryExhausted .sEntry (exactly Param.ackBbio) r)

/-- P_ENTRY (R561). -/
def phaseEntry (s : State) : Result :=
  match s.seq.point with
  | .start => .next (beginTx .sEntry [Param.entry] (s.setAttempt (s.seq.attempt + 1)))
  | .awaitAck => .next (onRead .sEntry Param.ackBbio.length s endEntry)
  | .awaitReply _ => .fault .sequencerMismatch

/-- P_BUSSEL (R562). -/
def phaseBusSel (s : State) : Result := ctrl .sBusSel Param.spiSelect Param.ackSpi .cfg s

/-- P_CFG (R563). -/
def phaseCfg (s : State) : Result :=
  ctrl .sCfg (cfgByte s.seq.cfg.cfgEn s.seq.cfg.cfgCpol s.seq.cfg.cfgCpha s.seq.cfg.cfgDevsel)
    Param.ack .speed s

/-- P_SPEED (R564). -/
def phaseSpeed (s : State) : Result :=
  ctrl .sSpeed (speedByte s.seq.cfg.speedSel) Param.ack .csLow s

/-- P_CSLOW (R565). -/
def phaseCsLow (s : State) : Result := ctrl .sCsLow Param.csLow Param.ack .pe s

/-- The end of P_PE with the four reply bytes, which are kept and never checked (R566). -/
def endPe (r : List Byte) (s : State) : State := (s.setPeReply r).goto .sig

/-- P_PE (R566). -/
def phasePe (s : State) : Result := xfer .sPe pePayload peReads endPe s

/-- Where P_SIG goes when byte i matched (R567). -/
def afterSig (i : Fin 3) (s : State) : State :=
  if i.val + 1 < 3 then s.goto .sig
  else if 0 < s.seq.cfg.addrSpaceSize.val then (s.setAddr 0).goto .rdl
  else s.goto .csHigh

/-- The end of P_SIG with signature byte b (R567): recorded, then compared. -/
def checkSig (i : Fin 3) (b : Byte) (s : State) : State :=
  if b ≠ s.seq.cfg.expectedSig[i] then
    (s.setSigGot i b).raise
      (Err.of .sigMismatch (.sSig i) (exactly [s.seq.cfg.expectedSig[i]]) [b])
  else afterSig i ((s.setSigGot i b).setSigIdx i.succ)

/-- The end of P_SIG with its one-byte reply (R567). -/
def endSig (i : Fin 3) (r : List Byte) (s : State) : State :=
  match r with
  | [] => s
  | b :: _ => checkSig i b s

/-- P_SIG (R567), for an index in 0..2. -/
def phaseSig (s : State) : Result :=
  if h : s.seq.sigIdx.val < 3 then
    xfer (.sSig s.seq.sigIdx) (rsigPayload (BitVec.ofNat 8 s.seq.sigIdx)) oneRead
      (endSig ⟨s.seq.sigIdx, h⟩) s
  else .fault .sequencerMismatch

/-- The end of P_RDL with its one-byte reply (R568). -/
def endRdl (r : List Byte) (s : State) : State :=
  match r with
  | [] => s
  | b :: _ => (s.imgAppend b).goto .rdh

/-- P_RDL (R568). -/
def phaseRdl (s : State) : Result :=
  xfer (.sRdl s.seq.addr.toNat) (flashPayload rdlOpcode s.seq.addr) oneRead endRdl s

/-- The sweep's advance and its progress event, `seq.addr` already incremented (R570). -/
def advanceSweep (s : State) : State :=
  (if s.seq.addr.toNat % Param.progressInterval = 0 then s.emit (.progress s.seq.addr.toNat) else s).goto
    (if s.seq.addr.toNat < s.seq.cfg.addrSpaceSize.val then .rdl else .csHigh)

/-- The end of P_RDH with its one-byte reply (R569). -/
def endRdh (r : List Byte) (s : State) : State :=
  match r with
  | [] => s
  | b :: _ => advanceSweep ((s.imgAppend b).setAddr (s.seq.addr + 1))

/-- P_RDH (R569). -/
def phaseRdh (s : State) : Result :=
  xfer (.sRdh s.seq.addr.toNat) (flashPayload rdhOpcode s.seq.addr) oneRead endRdh s

/-- P_CSHIGH (R571). -/
def phaseCsHigh (s : State) : Result := ctrl .sCsHigh Param.csHigh Param.ack .exit s

/-- P_EXIT (R572): the mode-exit sequence, no response read. -/
def phaseExit (s : State) : Result :=
  .next (linkWrite .sExit Param.exitSequence
    ((s.setExitCount (s.seq.exitCount + 1)).emit (.txBegin .sExit Param.exitSequence))
    (fun u => (u.emit (.txEnd .sExit [])).goto .close))

/-- P_CLOSE (R573): the link is closed, and the image is published if no error was recorded. -/
def phaseClose (s : State) : Result :=
  let u := s.linkClose.setLinkOpen false
  .next (match s.seq.err with
    | none => ((u.setOutput u.seq.image.bytes).emit (.sessionEnd none)).goto .doneOk
    | some e => (u.emit (.sessionEnd (some e))).goto .doneErr)

/-- P_DONE_OK and P_DONE_ERR have no step (R574). What can happen next is the start of the next session
the outside asks for (R714, R802). -/
def phaseDone (s : State) : Result :=
  .next (match s.sessions with
    | [] => s
    | c :: rest => { s with sessions := rest }.startSession c)

/-- One step of SEQ: the phase `seq.pc` (R101, R551). -/
def seqTurn (s : State) : Result :=
  match s.seq.pc with
  | .idle => phaseIdle s
  | .opening => phaseOpen s
  | .entry => phaseEntry s
  | .busSel => phaseBusSel s
  | .cfg => phaseCfg s
  | .speed => phaseSpeed s
  | .csLow => phaseCsLow s
  | .pe => phasePe s
  | .sig => phaseSig s
  | .rdl => phaseRdl s
  | .rdh => phaseRdh s
  | .csHigh => phaseCsHigh s
  | .exit => phaseExit s
  | .close => phaseClose s
  | .doneOk => phaseDone s
  | .doneErr => phaseDone s

/-- SEQ has reached a final phase (R574). -/
def State.sessionOver (s : State) : Bool := s.seq.pc == .doneOk || s.seq.pc == .doneErr

end Sys2Proof.Machine
end

