-- ==== Sys2Proof/Machine/Fetch.lean ====
section
/-! DEFINITION. DEC's step (R400): it consumes one byte, decodes it by its mode and parser, and the
instruction runs to completion. -/

namespace Sys2Proof.Machine

/-- The instruction DEC reads from a byte in this state (R307). -/
def State.decodes (s : State) (b : Byte) : Instr := decodeLink s.dec.mode s.dec.parse b

/-- DEC executes one byte (R400). -/
def consume (b : Byte) (s : State) : Result := exec (s.decodes b) s

/-- DEC executes bytes one after another. -/
def consumeAll : List Byte → State → Result
  | [], s => .next s
  | b :: rest, s => andThen (consume b s) (consumeAll rest)

/-- DECStep (R400): with no byte DEC is idle, which is no fault. -/
def decTurn (s : State) : Result :=
  match s.link.h2d with
  | [] => .next s
  | b :: rest => consume b (s.setH2d rest)

/-- No agent has a step: SEQ is in a final phase with no further session asked for (R574), and DEC has no
byte to consume (R400). -/
def State.ended (s : State) : Bool := s.sessionOver && s.sessions.isEmpty && s.link.h2d.isEmpty

/-- What follows an agent's step: the next turn is drawn (R15, R551). -/
def passTurn (s : State) : State := { s with turn := Config.nextTurn s.draws, draws := s.draws + 1 }

/-- The step of the agent whose turn it is. -/
def agentTurn (s : State) : Result :=
  match s.turn with
  | .seq => seqTurn s
  | .dec => decTurn s
  | .link => .next s.linkDrop

/-- Places an instruction where the next step fetches: DEC's turn, the mode and parser in which the byte is
that instruction, and the byte at the head of `link.h2d`. -/
def placeInstr (i : Instr) (s : State) : State :=
  { s with
    turn := .dec
    dec := { s.dec with mode := i.context.1, parse := i.context.2 }
    link := { s.link with h2d := lastByte i :: s.link.h2d } }

/-- Places raw bytes, for a word that stands for no instruction. -/
def placeBytes (nbits w : Nat) (s : State) : State :=
  { s with
    turn := .dec
    link := { s.link with h2d := (List.range (nbits / 8)).map (fun k => BitVec.ofNat 8 (w / 256 ^ k))
      ++ s.link.h2d } }

end Sys2Proof.Machine
end

