-- ==== Sys2Proof/Machine/Step.lean ====
section
/-! DEFINITION. One step of the machine, and the placing of an instruction for it. -/

namespace Sys2Proof.Machine

/-- One step: the agent whose turn it is steps, and the next turn is drawn. When no agent has a step the
run is over (R811). -/
def step (s : State) : Host.Outcome State Fault Refusal :=
  if s.ended then .fault .runEnded
  else andThen (agentTurn s) (fun t => .next (passTurn t))

/-- The state whose next step runs the instruction of a table word. -/
def State.withFetchWord (s : State) (nbits w : Nat) : State :=
  match decodeTableWord nbits w with
  | some i => placeInstr i s
  | none => placeBytes nbits w s

end Sys2Proof.Machine
end

