-- ==== Sys2Proof/Machine/Assembler.lean ====
section
/-! DEFINITION. The spec's assembler for link command streams (30_encoding.md rules R321 and R322): its
commands, its pseudo-instructions with their expansions, and its text form, one command a line. -/

namespace Sys2Proof

/-- A line of the assembler: the commands of R321, then the pseudo-instructions of R322. -/
inductive Asm where
  | entry
  | spiSelect
  | resetTerm
  | exitBbio
  | csLow
  | csHigh
  | cfg (e p h d : Bit)
  | speed (r : Rate)
  | wtr (m : Count) (payload : List Byte)
  | pe
  | rsig (i : BitVec 2)
  | rdl (a : WordAddr)
  | rdh (a : WordAddr)
  | exitSeq
  | entrySeq (k : Nat)
deriving DecidableEq, Repr

namespace Asm

/-- The operand conditions of R314, R321 and R322. -/
def wf : Asm → Bool
  | .wtr _ p => decide (p.length < 65536)
  | .rsig i => i != 3
  | .entrySeq k => decide (1 ≤ k ∧ k ≤ Param.maxEntryAttempts)
  | .entry | .spiSelect | .resetTerm | .exitBbio | .csLow | .csHigh | .cfg _ _ _ _ | .speed _ | .pe
  | .rdl _ | .rdh _ | .exitSeq => true

/-- `a >> 8` as a payload byte (R322). -/
def addrHigh (a : BitVec 14) : BitVec 8 := (a >>> 8).setWidth 8

/-- `a & 0xFF` as a payload byte (R322). -/
def addrLow (a : BitVec 14) : BitVec 8 := (a &&& 0xFF).setWidth 8

/-- The commands a pseudo-instruction stands for (R322); a command stands for itself. -/
def expand : Asm → List Asm
  | .pe => [.wtr 4 [0xAC, 0x53, 0x00, 0x00]]
  | .rsig i => [.wtr 1 [0x30, 0x00, i.setWidth 8]]
  | .rdl a => [.wtr 1 [0x20, addrHigh a, addrLow a]]
  | .rdh a => [.wtr 1 [0x28, addrHigh a, addrLow a]]
  | .exitSeq => [.exitBbio, .resetTerm]
  | .entrySeq k => List.replicate k .entry
  | .entry => [.entry]
  | .spiSelect => [.spiSelect]
  | .resetTerm => [.resetTerm]
  | .exitBbio => [.exitBbio]
  | .csLow => [.csLow]
  | .csHigh => [.csHigh]
  | .cfg e p h d => [.cfg e p h d]
  | .speed r => [.speed r]
  | .wtr m p => [.wtr m p]

/-- The bytes of a command (R321); N is the number of payload operands. -/
def commandBytes : Asm → List Byte
  | .entry => [Param.entry]
  | .spiSelect => [Param.spiSelect]
  | .resetTerm => [Param.resetTerm]
  | .exitBbio => [Param.exitBbio]
  | .csLow => [Param.csLow]
  | .csHigh => [Param.csHigh]
  | .cfg e p h d => [cfgByte e p h d]
  | .speed r => [speedByte r]
  | .wtr m p => frame p m
  | .pe | .rsig _ | .rdl _ | .rdh _ | .exitSeq | .entrySeq _ => []

/-- The bytes of a line: those of the commands it expands to (R322). -/
def bytes (a : Asm) : List Byte := a.expand.flatMap commandBytes

/-! ### The text form (R321) -/

/-- The value of a decimal digit. -/
def decimalDigit (c : Char) : Option Nat :=
  if '0' ≤ c ∧ c ≤ '9' then some (c.toNat - '0'.toNat) else none

/-- The value of a hexadecimal digit. -/
def hexDigit (c : Char) : Option Nat :=
  if '0' ≤ c ∧ c ≤ '9' then some (c.toNat - '0'.toNat)
  else if 'a' ≤ c ∧ c ≤ 'f' then some (c.toNat - 'a'.toNat + 10)
  else if 'A' ≤ c ∧ c ≤ 'F' then some (c.toNat - 'A'.toNat + 10)
  else none

/-- The value of digits read after `acc`, in a base. -/
def digits (base : Nat) (digit : Char → Option Nat) : Nat → List Char → Option Nat
  | acc, [] => some acc
  | acc, c :: cs =>
    match digit c with
    | none => none
    | some d => digits base digit (acc * base + d) cs

/-- An operand: a decimal number or a 0x hexadecimal number (R321). -/
def number : List Char → Option Nat
  | [] => none
  | '0' :: 'x' :: c :: cs => digits 16 hexDigit 0 (c :: cs)
  | c :: cs => digits 10 decimalDigit 0 (c :: cs)

/-- The text before the comment (R321). -/
def withoutComment (line : List Char) : List Char := line.takeWhile (· != ';')

/-- A character between words: space, tab, carriage return. -/
def blank (c : Char) : Bool := c == ' ' || c == '\t' || c == '\r'

/-- A text without the blanks around it. -/
def trim (cs : List Char) : List Char := (((cs.dropWhile blank).reverse).dropWhile blank).reverse

/-- The pieces of a text between separators. -/
def pieces (sep : Char) : List Char → List (List Char)
  | [] => [[]]
  | c :: cs =>
    match pieces sep cs with
    | [] => [[]]
    | p :: ps => if c = sep then [] :: p :: ps else (c :: p) :: ps

/-- The numbers of an operand list separated by commas; no operands for an empty list. -/
def operands (cs : List Char) : Option (List Nat) :=
  if (trim cs).isEmpty then some [] else (pieces ',' cs).mapM (fun p => number (trim p))

/-- A number as a field of w bits, if it fits. -/
def fits (w n : Nat) : Option (BitVec w) := if n < 2 ^ w then some (BitVec.ofNat w n) else none

/-- The line a command word and its operands stand for (R321, R322). -/
def build (word : List Char) (ops : List Nat) : Option Asm :=
  if word = ['E', 'N', 'T', 'R', 'Y'] ∧ ops = [] then some .entry
  else if word = ['S', 'P', 'I', '_', 'S', 'E', 'L', 'E', 'C', 'T'] ∧ ops = [] then some .spiSelect
  else if word = ['R', 'E', 'S', 'E', 'T', '_', 'T', 'E', 'R', 'M'] ∧ ops = [] then some .resetTerm
  else if word = ['E', 'X', 'I', 'T', '_', 'B', 'B', 'I', 'O'] ∧ ops = [] then some .exitBbio
  else if word = ['C', 'S', '_', 'L', 'O', 'W'] ∧ ops = [] then some .csLow
  else if word = ['C', 'S', '_', 'H', 'I', 'G', 'H'] ∧ ops = [] then some .csHigh
  else if word = ['C', 'F', 'G'] then
    match ops with
    | [e, p, h, d] => do return .cfg (← fits 1 e) (← fits 1 p) (← fits 1 h) (← fits 1 d)
    | _ => none
  else if word = ['S', 'P', 'E', 'E', 'D'] then
    match ops with
    | [r] => do return .speed (← fits 3 r)
    | _ => none
  else if word = ['W', 'T', 'R'] then
    match ops with
    | m :: bs => do return .wtr (← fits 16 m) (← bs.mapM (fits 8))
    | [] => none
  else if word = ['P', 'E'] ∧ ops = [] then some .pe
  else if word = ['R', 'S', 'I', 'G'] then
    match ops with
    | [i] => do return .rsig (← fits 2 i)
    | _ => none
  else if word = ['R', 'D', 'L'] then
    match ops with
    | [a] => do return .rdl (← fits 14 a)
    | _ => none
  else if word = ['R', 'D', 'H'] then
    match ops with
    | [a] => do return .rdh (← fits 14 a)
    | _ => none
  else if word = ['E', 'X', 'I', 'T', 'S', 'E', 'Q'] ∧ ops = [] then some .exitSeq
  else if word = ['E', 'N', 'T', 'R', 'Y', 'S', 'E', 'Q'] then
    match ops with
    | [k] => some (.entrySeq k)
    | _ => none
  else none

/-- One line of text: no command on a line that is blank but for a comment; `none` if the line is no
command of R321 or R322 with operands in range. -/
def parseLine (line : List Char) : Option (List Asm) :=
  let body := trim (withoutComment line)
  if body.isEmpty then some []
  else
    match operands (body.dropWhile (fun c => !blank c)) with
    | none => none
    | some ops =>
      match build (body.takeWhile (fun c => !blank c)) ops with
      | none => none
      | some a => if a.wf then some [a] else none

/-- A program text: its commands in order (R321). -/
def parse (text : List Char) : Option (List Asm) :=
  ((pieces '\n' text).mapM parseLine).map List.flatten

/-- The link bytes of a program text. -/
def assemble (text : List Char) : Option (List Byte) := (parse text).map (fun ls => ls.flatMap bytes)

end Asm

end Sys2Proof
end

