-- ==== Sys2Proof/Safety.lean ====
section
/-! DEFINITION. What claims speak of: runs, the premises the spec lets a claim take of one (R506, R732, R733,
R831), the end state of a run (R811), the invariants of the machine (R133, R577) and the order of a session's
transactions (R575, R576). None of it is part of the machine. -/

namespace Sys2Proof.Machine

/-! ### Runs

A run is a sequence of states, one step apart. Whose turn comes next is a draw (R15, log entry 3), so a run
may give the next turn to any agent; a run in which the machine has stopped stands still. -/

/-- `t` can follow `s`: the step of the agent whose turn it is in `s`, then a turn drawn freely. -/
def Follows (s t : State) : Prop := ∃ u who, step s = .next u ∧ t = { u with turn := who }

/-- The machine has no step from `s`. -/
def Stopped (s : State) : Prop := ∀ t, step s ≠ .next t

/-- r is a run of the machine, from any state. -/
def IsRun (r : Nat → State) : Prop := ∀ k, Follows (r k) (r (k + 1)) ∨ (Stopped (r k) ∧ r (k + 1) = r k)

/-- Time k of r lies in the session that is under way at time a: a run in the spec's sense (R811) ends with
its session's final phase. -/
def InSession (r : Nat → State) (a k : Nat) : Prop := a ≤ k ∧ ∀ j, a ≤ j → j ≤ k → (r j).sessionOver = false

/-- The instruction DEC runs in the step from this state, if that step is DEC's and it has a byte. -/
def State.running (s : State) : Option Instr :=
  match s.turn, s.link.h2d with
  | .dec, b :: _ => some (s.decodes b)
  | _, _ => none

/-- The bus records the step at time k adds. -/
def added (r : Nat → State) (k : Nat) : List Exchange := (r (k + 1)).bus.log.drop (r k).bus.log.length

/-- Where the present select-low interval begins in the bus history: its length when `dec.cs_n` last changed
from 1 to 0. None while the line is high, or if it has been low since the run's first state. -/
def selectLowSince (r : Nat → State) : Nat → Option Nat
  | 0 => none
  | k + 1 =>
    if (r (k + 1)).dec.csN = 1 then none
    else if (r k).dec.csN = 1 then some (r k).bus.log.length
    else selectLowSince r k

/-- DEC taking k steps in a row (R400, R551). -/
def decTurns : Nat → State → Result
  | 0, s => .next s
  | k + 1, s => andThen (decTurn s) (decTurns k)

/-! ### Premises about a run's draws (R732, R733) -/

/-- QuietTerminal (R733): the terminal prints nothing. -/
def QuietTerminal : Prop := ∀ n, Config.terminalOutput n = []

/-- LinkStays (R733): between a successful LinkOpen and LinkClose `link.up` does not fall; where it falls, the
step is that of P_CLOSE. -/
def LinkStays (r : Nat → State) : Prop :=
  ∀ k, (r k).link.up = true → (r (k + 1)).link.up = false → (r k).turn = .seq ∧ (r k).seq.pc = .close

/-- How many bytes the `LinkRead` asks for in which SEQ stands, if it stands in one: the reply of an entry
attempt (R561) or of a control transaction (R552), the acknowledgment or the reply of a framed one (R553). -/
def Seq.reading (q : Seq) : Option Nat :=
  match q.point with
  | .start => none
  | .awaitAck =>
    match q.pc with
    | .entry => some Param.ackBbio.length
    | .busSel => some Param.ackSpi.length
    | .cfg | .speed | .csLow | .csHigh => some Param.ack.length
    | .pe | .rdl | .rdh => some 1
    | .sig => if q.sigIdx.val < 3 then some 1 else none
    | .idle | .opening | .exit | .close | .doneOk | .doneErr => none
  | .awaitReply _ =>
    match q.pc with
    | .pe => some peReads.toNat
    | .rdl | .rdh => some oneRead.toNat
    | .sig => if q.sigIdx.val < 3 then some oneRead.toNat else none
    | .idle | .opening | .entry | .busSel | .cfg | .speed | .csLow | .csHigh | .exit | .close | .doneOk
    | .doneErr => none

/-- In the step from this state a `LinkRead` times out (R124): it is SEQ's step, SEQ stands in a read, the
link is up, fewer bytes are present than the read asks for, and the timeout draw comes. Nowhere else is that
draw taken. -/
def State.timesOut (s : State) : Prop :=
  s.turn = .seq ∧ ∃ n, s.seq.reading = some n ∧ s.link.up = true ∧ s.link.d2h.length < n ∧
    Config.readTimesOut s.draws = true

/-- NoTimeout at one state (R732): no `LinkRead` times out while DEC has an enabled step. DEC's step is atomic
(R216, R400), so no read meets it executing. -/
def NoTimeoutAt (s : State) : Prop := s.link.h2d ≠ [] → ¬ s.timesOut

/-- NoTimeout (R732), of the session at time a. -/
def NoTimeout (r : Nat → State) (a : Nat) : Prop := ∀ k, InSession r a k → NoTimeoutAt (r k)

/-- DecStartsKnown (R733), of the state at `LinkOpen`. -/
def DecStartsKnown (s : State) : Prop := s.dec.mode ≠ .desync ∧ s.dec.parse = .idle

/-- Fairness (R831), on which the end of a run rests. -/
structure Fair (r : Nat → State) : Prop where
  /-- every enabled DEC step is eventually taken, unless LinkOpen empties the FIFO first -/
  dec : ∀ k, (r k).link.h2d ≠ [] → ∃ j, k ≤ j ∧ ((r j).turn = .dec ∨ (r j).link.h2d = [])
  /-- every LinkRead eventually completes or times out, or finds the link down: SEQ moves on -/
  read : ∀ k, (r k).seq.point ≠ .start → ∃ j, k ≤ j ∧ (r j).seq ≠ (r k).seq
  /-- SEQ, when it is not in a read, eventually steps: what the model's drawn turns need for R831 (log
  entry 3) -/
  seq : ∀ k, (r k).seq.point = .start → (r k).sessionOver = false → ∃ j, k ≤ j ∧ (r j).turn = .seq

/-! ### Premises about the target (R506) -/

/-- One exchange with the configuration the target needs (R506): select asserted, CPOL = 0, CPHA = 0. -/
def Exchange.properly (r : Exchange) : Prop :=
  r.req.csN = 0 ∧ r.req.cpol = some 0 ∧ r.req.cpha = some 0

/-- The g-th group of four exchanges of a select-low interval (R506). -/
def groupAt (interval : List Exchange) (g : Nat) : List Exchange := (interval.drop (4 * g)).take 4

/-- A group that enables programming: its first two bytes are 0xAC, 0x53 (R506). -/
def enablesProgramming (group : List Exchange) : Prop :=
  ∃ a b x y, group = [a, b, x, y] ∧ a.req.mosi = 0xAC ∧ b.req.mosi = 0x53

/-- What the target's fourth byte is for a group, in the three cases of R506. -/
def groupAnswers (sigT : Fin 3 → Byte) (flashT : WordAddr → BitVec 16) (group : List Exchange) : Prop :=
  ∀ a b c d, group = [a, b, c, d] →
    (∀ i : Fin 3, a.req.mosi = 0x30 → b.req.mosi = 0x00 → c.req.mosi = BitVec.ofNat 8 i → d.miso = sigT i) ∧
    (a.req.mosi = 0x20 → b.req.mosi ≤ 0x3F →
      d.miso = (flashT (recompose b.req.mosi c.req.mosi)).extractLsb' 0 8) ∧
    (a.req.mosi = 0x28 → b.req.mosi ≤ 0x3F →
      d.miso = (flashT (recompose b.req.mosi c.req.mosi)).extractLsb' 8 8)

/-- FlashStable(FLASH_T) (R506, D41), of the session at time a: every read of a word answers from one fixed
function. The answer of a read is the last exchange of its instruction (R504, R505). -/
def FlashStable (flashT : WordAddr → BitVec 16) (r : Nat → State) (a : Nat) : Prop :=
  ∀ k w, InSession r a k →
    ((r k).running = some (.ispRdl w) → ∀ e ∈ (added r k).getLast?, e.miso = (flashT w).extractLsb' 0 8) ∧
    ((r k).running = some (.ispRdh w) → ∀ e ∈ (added r k).getLast?, e.miso = (flashT w).extractLsb' 8 8)

/-- TargetConforms(SIG_T, FLASH_T) (R506), of the session at time a. -/
structure TargetConforms (sigT : Fin 3 → Byte) (flashT : WordAddr → BitVec 16) (r : Nat → State) (a : Nat) :
    Prop where
  /-- every exchange of an ISP instruction has the configuration the target needs -/
  properly : ∀ k i, InSession r a k → (r k).running = some i → ispFrame i ≠ none →
    ∀ e ∈ added r k, Exchange.properly e
  /-- with the exchanges of the select-low interval grouped in fours from its beginning, every group that ends
  in the session and follows a program-enable group of the interval is answered as R506 says -/
  answers : ∀ k start g g', InSession r a k → selectLowSince r k = some start →
    (r a).bus.log.length ≤ start + 4 * g + 3 → g' < g →
    enablesProgramming (groupAt ((r k).bus.log.drop start) g') →
    groupAnswers sigT flashT (groupAt ((r k).bus.log.drop start) g)

/-! ### The end of a run (R811) -/

/-- What a claim may read of an ended run (R811). -/
structure EndState where
  output : Option (List Byte)
  err : Option Err
  exitCount : Nat
  sigGot : Vector (Option Byte) 3
  peReply : Option (List Byte)
  trace : List Event
  busLog : List Exchange
deriving DecidableEq, Repr

/-- The end state of R811. -/
def State.endState (s : State) : EndState where
  output := s.seq.output
  err := s.seq.err
  exitCount := s.seq.exitCount
  sigGot := s.seq.sigGot
  peReply := s.seq.peReply
  trace := s.seq.trace
  busLog := s.bus.log

/-! ### The invariant of the machine -/

/-- A configuration with the values the spec decides (R8, D27, C1). -/
def SessionCfg.legal (c : SessionCfg) : Prop :=
  c.cfgEn = Param.cfgEn ∧ c.cfgCpol = Param.cfgCpol ∧ c.cfgCpha = Param.cfgCpha ∧
  c.expectedSig = Param.expectedSig ∧ c.maxEntryAttempts = Param.maxEntryAttempts

/-- The phases between a successful open and the close (R110). -/
def Phase.linked (p : Phase) : Prop := p ≠ .idle ∧ p ≠ .opening ∧ p ≠ .doneOk ∧ p ≠ .doneErr

/-- The phases before the first flash read. -/
def Phase.beforeSweep (p : Phase) : Prop :=
  p = .idle ∨ p = .opening ∨ p = .entry ∨ p = .busSel ∨ p = .cfg ∨ p = .speed ∨ p = .csLow ∨ p = .pe ∨ p = .sig

/-- SEQ has finished the sweep without an error: P_CSHIGH, or later with no error recorded. -/
def Seq.swept (q : Seq) : Prop :=
  q.pc = .csHigh ∨ q.pc = .doneOk ∨ ((q.pc = .exit ∨ q.pc = .close) ∧ q.err = none)

/-- The points a phase has: a framed transaction has both reads, a control transaction and an entry attempt
one, any other phase none (R551). -/
def Seq.pointFits (q : Seq) : Prop :=
  match q.pc with
  | .pe | .sig | .rdl | .rdh => q.point = .start ∨ q.point = .awaitAck ∨ q.point = .awaitReply Param.ack
  | .entry | .busSel | .cfg | .speed | .csLow | .csHigh => q.point = .start ∨ q.point = .awaitAck
  | .idle | .opening | .exit | .close | .doneOk | .doneErr => q.point = .start

/-- What holds of SEQ in every run (R102 to R111, R206, R577). -/
structure SeqInv (q : Seq) : Prop where
  cfg : q.cfg.legal
  point : q.pointFits
  /-- the image's offsets are 0, 1, 2, ... without a gap (R205, R207) -/
  imageOffsets : q.image.map Prod.fst = List.range q.image.length
  imageBound : q.image.length ≤ 2 * q.cfg.addrSpaceSize.val
  attemptBound : q.attempt ≤ q.cfg.maxEntryAttempts
  attemptFirst : q.pc = .idle ∨ q.pc = .opening → q.attempt = 0
  attemptLeft : q.pc = .entry → q.point = .start → q.attempt < q.cfg.maxEntryAttempts
  addrBound : q.addr.toNat ≤ q.cfg.addrSpaceSize.val
  sigFirst : q.pc.beforeSweep → q.pc ≠ .sig → q.sigIdx = 0
  sigIndex : q.pc = .sig → q.sigIdx.val < 3
  /-- the signature bytes read so far are the expected ones -/
  sigMatched : q.pc = .sig → ∀ i : Fin 3, i.val < q.sigIdx.val → q.sigGot[i] = some q.cfg.expectedSig[i]
  /-- no flash read without a verified signature (R577 c) -/
  sigVerified : q.pc = .rdl ∨ q.pc = .rdh ∨ q.swept → ∀ i : Fin 3, q.sigGot[i] = some q.cfg.expectedSig[i]
  imageEmpty : q.pc.beforeSweep → q.image = [] ∧ q.addr = 0
  imageLow : q.pc = .rdl → q.addr.toNat < q.cfg.addrSpaceSize.val ∧ q.image.length = 2 * q.addr.toNat
  imageHigh : q.pc = .rdh → q.addr.toNat < q.cfg.addrSpaceSize.val ∧ q.image.length = 2 * q.addr.toNat + 1
  imageWhole : q.swept → q.image.length = 2 * q.cfg.addrSpaceSize.val
  peLength : ∀ r, q.peReply = some r → r.length = 4
  linkOpen : q.linkOpen = true ↔ q.pc.linked
  /-- the mode-exit sequence is sent exactly once by a session that opened the link (R577 e) -/
  exitOnce : q.exitCount = if q.pc = .close ∨ q.pc = .doneOk then 1 else if q.pc = .doneErr then q.exitCount else 0
  exitBound : q.exitCount ≤ 1
  /-- an error before the open succeeded is the open's failure, and only that sends no exit (R577 e) -/
  teardownErr : q.pc = .exit ∨ q.pc = .close → ∀ e, q.err = some e → e.sub ≠ .openFailed
  endErr : q.pc = .doneErr → ∃ e, q.err = some e ∧
    (if e.sub = .openFailed then q.exitCount = 0 else q.exitCount = 1)
  errKind : ∀ e, q.err = some e → e.kind = e.sub.kind
  noErr : q.pc ≠ .exit → q.pc ≠ .close → q.pc ≠ .doneErr → q.err = none
  /-- the artifact is published exactly by a successful run (R577 f), and it is the image (R573) -/
  noOutput : q.pc ≠ .doneOk → q.output = none
  output : q.pc = .doneOk → q.output = some q.image.bytes

/-- What holds of DEC in every run (R132, R133): the parser is idle outside SPI mode, a header has fewer
than four bytes and a payload fewer than its count, no count is above WTR_MAX, and the run of ENTRY bytes
is below the threshold and counted only in TERMINAL. -/
structure DecInv (d : Dec) : Prop where
  parseMode : d.parse ≠ .idle → d.mode = .spi
  header : ∀ k acc, d.parse = .hdr k acc → acc.length = k ∧ k < 4
  payload : ∀ n m acc, d.parse = .data n m acc →
    acc.length < n.toNat ∧ n.toNat ≤ Param.wtrMax ∧ m.toNat ≤ Param.wtrMax
  runBound : d.entryRun < Config.entryThreshold
  runMode : d.mode ≠ .terminal → d.entryRun = 0

/-- The invariant of the machine: SEQ's and DEC's, every session asked for has the decided values, and the
link is up only while SEQ holds it open (R110, R123). -/
structure Inv (s : State) : Prop where
  seq : SeqInv s.seq
  dec : DecInv s.dec
  sessions : ∀ c ∈ s.sessions, c.legal
  link : s.link.up = true → s.seq.linkOpen = true

/-! ### The phases that issue one transaction (R552, R553, R562 to R571) -/

/-- A control phase: its step, the byte it writes, the constant it expects and its next phase (R562 to R565,
R571). -/
def Seq.control (q : Seq) : Option (StepId × Byte × List Byte × Phase) :=
  match q.pc with
  | .busSel => some (.sBusSel, 0x01, [0x53, 0x50, 0x49, 0x31], .cfg)
  | .cfg => some (.sCfg, cfgByte q.cfg.cfgEn q.cfg.cfgCpol q.cfg.cfgCpha q.cfg.cfgDevsel, [0x01], .speed)
  | .speed => some (.sSpeed, speedByte q.cfg.speedSel, [0x01], .csLow)
  | .csLow => some (.sCsLow, 0x02, [0x01], .pe)
  | .csHigh => some (.sCsHigh, 0x03, [0x01], .exit)
  | .idle | .opening | .entry | .pe | .sig | .rdl | .rdh | .exit | .close | .doneOk | .doneErr => none

/-- A framed phase: its step, the bytes it writes and the length of its reply (R566 to R569). -/
def Seq.framed (q : Seq) : Option (StepId × List Byte × Nat) :=
  match q.pc with
  | .pe => some (.sPe, [0x04, 0x00, 0x04, 0x00, 0x04, 0xAC, 0x53, 0x00, 0x00], 4)
  | .sig =>
    if q.sigIdx.val < 3 then
      some (.sSig q.sigIdx.val, [0x04, 0x00, 0x03, 0x00, 0x01, 0x30, 0x00, BitVec.ofNat 8 q.sigIdx.val], 1)
    else none
  | .rdl =>
    some (.sRdl q.addr.toNat,
      [0x04, 0x00, 0x03, 0x00, 0x01, 0x20, (decompose q.addr).1, (decompose q.addr).2], 1)
  | .rdh =>
    some (.sRdh q.addr.toNat,
      [0x04, 0x00, 0x03, 0x00, 0x01, 0x28, (decompose q.addr).1, (decompose q.addr).2], 1)
  | .idle | .opening | .entry | .busSel | .cfg | .speed | .csLow | .csHigh | .exit | .close | .doneOk
  | .doneErr => none

/-! ### The transactions of a session, in order (R575, R576) -/

/-- One transaction as the host writes it: its step and the bytes written. -/
abbrev Tx := StepId × List Byte

/-- The transactions begun, in order, from the trace (R741). -/
def begun : List Event → List Tx
  | [] => []
  | .txBegin step bs :: rest => (step, bs) :: begun rest
  | .sessionStart _ :: rest => begun rest
  | .txEnd _ _ :: rest => begun rest
  | .progress _ :: rest => begun rest
  | .fault _ :: rest => begun rest
  | .sessionEnd _ :: rest => begun rest

/-- `00` k times (R576). -/
def scriptEntry (k : Nat) : List Tx := List.replicate k (.sEntry, [0x00])

/-- SPI select, configuration, clock rate, chip-select and program enable (R576). -/
def scriptSetup (c : SessionCfg) : List Tx :=
  [(.sBusSel, [0x01]), (.sCfg, [cfgByte c.cfgEn c.cfgCpol c.cfgCpha c.cfgDevsel]),
   (.sSpeed, [speedByte c.speedSel]), (.sCsLow, [0x02]),
   (.sPe, [0x04, 0x00, 0x04, 0x00, 0x04, 0xAC, 0x53, 0x00, 0x00])]

/-- One signature read (R576). -/
def scriptSig (i : Nat) : Tx := (.sSig i, [0x04, 0x00, 0x03, 0x00, 0x01, 0x30, 0x00, BitVec.ofNat 8 i])

/-- The low read of word a (R576). -/
def scriptLow (a : Nat) : Tx :=
  (.sRdl a, [0x04, 0x00, 0x03, 0x00, 0x01, 0x20, BitVec.ofNat 8 (a / 256), BitVec.ofNat 8 (a % 256)])

/-- The high read of word a (R576). -/
def scriptHigh (a : Nat) : Tx :=
  (.sRdh a, [0x04, 0x00, 0x03, 0x00, 0x01, 0x28, BitVec.ofNat 8 (a / 256), BitVec.ofNat 8 (a % 256)])

/-- The flash reads of the first n words, ascending, low then high (R576). -/
def scriptSweep (n : Nat) : List Tx := (List.range n).flatMap (fun a => [scriptLow a, scriptHigh a])

/-- Chip-select off and the mode-exit sequence (R576). -/
def txCsHigh : Tx := (.sCsHigh, [0x03])

/-- The mode-exit sequence (R572, R576). -/
def txExit : Tx := (.sExit, [0x00, 0x0F])

/-- Everything up to the sweep, with n signature bytes read. -/
def scriptToSig (c : SessionCfg) (k n : Nat) : List Tx :=
  scriptEntry k ++ scriptSetup c ++ (List.range n).map scriptSig

/-- The success path but for the mode-exit sequence, with k entry attempts (R575, R576). -/
def script (c : SessionCfg) (k : Nat) : List Tx :=
  scriptToSig c k 3 ++ scriptSweep c.addrSpaceSize.val ++ [txCsHigh]

/-- The bytes of transactions. -/
def txBytes (l : List Tx) : List Byte := l.flatMap Prod.snd

/-- The transactions completed before the present phase, and the one the phase begins, in the phases of the
success path that begin one (R575). -/
def Seq.progress (q : Seq) : Option (List Tx × Tx) :=
  let setup := scriptEntry q.attempt ++ scriptSetup q.cfg
  let nth (n : Nat) : Option (List Tx × Tx) :=
    match (scriptSetup q.cfg)[n]? with
    | some t => some (scriptEntry q.attempt ++ (scriptSetup q.cfg).take n, t)
    | none => none
  match q.pc with
  | .busSel => nth 0
  | .cfg => nth 1
  | .speed => nth 2
  | .csLow => nth 3
  | .pe => nth 4
  | .sig => some (setup ++ (List.range q.sigIdx.val).map scriptSig, scriptSig q.sigIdx.val)
  | .rdl =>
    some (scriptToSig q.cfg q.attempt 3 ++ scriptSweep q.addr.toNat, scriptLow q.addr.toNat)
  | .rdh =>
    some (scriptToSig q.cfg q.attempt 3 ++ scriptSweep q.addr.toNat ++ [scriptLow q.addr.toNat],
      scriptHigh q.addr.toNat)
  | .csHigh => some (scriptToSig q.cfg q.attempt 3 ++ scriptSweep q.cfg.addrSpaceSize.val, txCsHigh)
  | .idle | .opening | .entry | .exit | .close | .doneOk | .doneErr => none

/-- The transactions a session has begun are those of the success path, in its order and with its bytes, up
to where SEQ stands; after an error they are a first part of it; the mode-exit sequence comes last and
once (R575, R576, R577 a to e). -/
def TransactionOrder (q : Seq) : Prop :=
  match q.pc with
  | .idle | .opening => begun q.trace = []
  | .entry => begun q.trace = scriptEntry q.attempt
  | .busSel | .cfg | .speed | .csLow | .pe | .sig | .rdl | .rdh | .csHigh =>
    ∃ before now, q.progress = some (before, now) ∧
      begun q.trace = if q.point = .start then before else before ++ [now]
  | .exit => begun q.trace <+: script q.cfg q.attempt ∧ (q.err = none → begun q.trace = script q.cfg q.attempt)
  | .close => ∃ p, p <+: script q.cfg q.attempt ∧ begun q.trace = p ++ [txExit] ∧
      (q.err = none → p = script q.cfg q.attempt)
  | .doneOk => begun q.trace = script q.cfg q.attempt ++ [txExit]
  | .doneErr => begun q.trace = [] ∨ ∃ p, p <+: script q.cfg q.attempt ∧ begun q.trace = p ++ [txExit]

end Sys2Proof.Machine
end

