-- ==== Sys2Proof/Certificates/Slice0/Obligations.lean ====
section
/-! DEFINITION. The statements for the provers. -/

open Sys2Proof Sys2Proof.Machine

/-! ### Encoding and decoding -/

/-- Words written out from 30_encoding.md: each is read as the instruction it stands for (R302 to R307, R313;
vectors E1, E4, E12 and IV1 to IV8 of 95_test_vectors.md). -/
def Obligations.KnownWordsDecode : Prop :=
  decodeLink .terminal .idle 0x00 = .tEntry ∧ decodeLink .terminal .idle 0x0F = .tOther 0x0F ∧
  decodeLink .bbio .idle 0x00 = .bEntry ∧ decodeLink .bbio .idle 0x01 = .bSpiSelect ∧
  decodeLink .bbio .idle 0x0F = .bResetTerm ∧ decodeLink .bbio .idle 0x02 = .bUndef 0x02 ∧
  decodeLink .spi .idle 0x00 = .sExitBbio ∧ decodeLink .spi .idle 0x02 = .sCsLow ∧
  decodeLink .spi .idle 0x03 = .sCsHigh ∧ decodeLink .spi .idle 0x04 = .sWtr ∧
  decodeLink .spi .idle 0x89 = .sCfg 1 0 0 1 ∧ decodeLink .spi .idle 0x67 = .sSpeed 7 ∧
  decodeLink .spi .idle 0x68 = .sUndef 0x68 ∧ decodeLink .spi (.hdr 2 [0x00, 0x03]) 0x00 = .sWtrHdr 0x00 ∧
  decodeLink .spi (.data 4 4 [0xAC, 0x53]) 0x00 = .sWtrData 0x00 ∧ decodeLink .desync .idle 0x01 = .xAny 0x01 ∧
  decodeIspFrame [0x04, 0x00, 0x04, 0x00, 0x04, 0xAC, 0x53, 0x00, 0x00] = .ok (.ispPe, []) ∧
  decodeIspFrame [0x04, 0x00, 0x03, 0x00, 0x01, 0x30, 0x00, 0x01] = .ok (.ispRsig 1, []) ∧
  decodeIspFrame [0x04, 0x00, 0x03, 0x00, 0x01, 0x20, 0x12, 0x34] = .ok (.ispRdl 0x1234, []) ∧
  decodeIspFrame [0x04, 0x00, 0x03, 0x00, 0x01, 0x28, 0x3F, 0xFF] = .ok (.ispRdh 0x3FFF, [])

/-- Every instruction of every family, with every operand its encoding admits, decodes back from its
encoding: a link command from its one byte (R302 to R307), an ISP instruction from its whole frame, whatever
bytes follow (R311 to R313). The first clause reads an ISP instruction also from the frame's last byte, in a
decoder that holds the others: R307's row calls that byte a payload byte, and reading it as the instruction
is the model's (DEDUCED, log entry 7). -/
def Obligations.EncodeThenDecodeGivesTheInstruction : Prop :=
  ∀ i : Instr, i.wf = true →
    decodeLink i.context.1 i.context.2 (lastByte i) = i ∧
    (ispFrame i = none → encode i = [lastByte i]) ∧
    (ispFrame i ≠ none → ∀ rest, decodeIspFrame (encode i ++ rest) = .ok (i, rest))

/-- Every byte in every mode and parser state is read as a well-formed instruction whose encoding ends in
that byte: no bit of a command byte is dropped, and no byte stands for two rows (R307, R315). -/
def Obligations.EveryByteIsOneWellFormedInstruction : Prop :=
  ∀ mode parse b, (decodeLink mode parse b).wf = true ∧ lastByte (decodeLink mode parse b) = b

/-- R311 and R316: header and payload of a frame within WTR_MAX are reassembled, whatever bytes follow; a
larger count is refused by name. -/
def Obligations.FrameReassembles : Prop :=
  ∀ (p : List Byte) (m : Count) (rest : List Byte), p.length < 65536 →
    decodeFrame (frame p m ++ rest) =
      if 4096 < p.length ∨ 4096 < m.toNat then .error .countTooLarge else .ok ((m, p), rest)

/-- R303, R309: the sixteen CFG bytes are 0x80..0x8F, each field assembled at its own bit and extracted from
it; with the decided defaults the byte is 0x88 or 0x89. -/
def Obligations.CfgByteFields : Prop :=
  (∀ e p h d : Bit,
    (cfgByte e p h d).toNat = 0x80 + 8 * e.toNat + 4 * p.toNat + 2 * h.toNat + d.toNat ∧
    decodeLink .spi .idle (cfgByte e p h d) = .sCfg e p h d) ∧
  (∀ b : Byte, (∃ e p h d, decodeLink .spi .idle b = .sCfg e p h d) ↔ 0x80 ≤ b.toNat ∧ b.toNat ≤ 0x8F) ∧
  (∀ d : Bit, cfgByte Param.cfgEn Param.cfgCpol Param.cfgCpha d = 0x88 ||| d.setWidth 8)

/-- R304, R310: the eight SPEED bytes are 0x60..0x67, the selector in the low three bits. -/
def Obligations.SpeedByteFields : Prop :=
  (∀ r : Rate, (speedByte r).toNat = 0x60 + r.toNat ∧ decodeLink .spi .idle (speedByte r) = .sSpeed r) ∧
  (∀ b : Byte, (∃ r, decodeLink .spi .idle b = .sSpeed r) ↔ 0x60 ≤ b.toNat ∧ b.toNat ≤ 0x67)

/-- R202 and R203: the split of a word address, the value recomposed from a segment up to 0x3F and an offset,
and the round trip over the whole range. -/
def Obligations.AddressSplitRoundTrips : Prop :=
  (∀ a : BitVec 15, a.toNat < 16384 →
    (decompose a).1.toNat = a.toNat / 256 ∧ (decompose a).2.toNat = a.toNat % 256 ∧
    (decompose a).1.toNat ≤ 0x3F ∧
    (recompose (decompose a).1 (decompose a).2).toNat = a.toNat) ∧
  ∀ segment offset : Byte, segment.toNat ≤ 0x3F →
    (recompose segment offset).toNat = 256 * segment.toNat + offset.toNat

/-- R322: the pseudo-instructions expand to the bytes of the instructions they name. -/
def Obligations.PseudoInstructionsExpand : Prop :=
  Asm.pe.bytes = encode .ispPe ∧
  (∀ i : BitVec 2, (Asm.rsig i).bytes = encode (.ispRsig i)) ∧
  (∀ a : WordAddr, (Asm.rdl a).bytes = encode (.ispRdl a) ∧ (Asm.rdh a).bytes = encode (.ispRdh a)) ∧
  Asm.exitSeq.bytes = [0x00, 0x0F] ∧ ∀ k, (Asm.entrySeq k).bytes = List.replicate k 0x00

/-! ### The decoder's commands (40_decoder.md): each statement gives the whole next state -/

/-- R401 (T.ENTRY). `t` is the terminal output, a draw; `n` is the model's draw counter afterwards, on which
nothing rests. -/
def Obligations.TerminalEntry : Prop :=
  (∀ parse, decodeLink .terminal parse 0x00 = .tEntry) ∧
  ∀ s : State, ∃ (t : List Byte) (n : Nat), exec .tEntry s = .next
    (if Config.entryThreshold ≤ s.dec.entryRun + 1 then
      { s with
        dec := { s.dec with mode := .bbio, parse := .idle, entryRun := 0 }
        link := { s.link with d2h := s.link.d2h ++ (t ++ [0x42, 0x42, 0x49, 0x4F, 0x31]) }
        draws := n }
    else
      { s with
        dec := { s.dec with entryRun := s.dec.entryRun + 1 }
        link := { s.link with d2h := s.link.d2h ++ t }
        draws := n })

/-- R402 (T.OTHER). The six SPI registers and the reply t are draws; n is the model's draw counter. That a
drawn configuration or rate register holds a value, and never ⊥, is the model's (DEDUCED, log entry 11). -/
def Obligations.TerminalOther : Prop :=
  (∀ parse b, b ≠ 0x00 → decodeLink .terminal parse b = .tOther b) ∧
  ∀ (b : Byte) (s : State), ∃ (d : SpiDraw) (t : List Byte) (n : Nat), exec (.tOther b) s = .next
    { s with
      dec := { s.dec with
        entryRun := 0
        csN := d.csN
        cfgEn := some d.cfgEn
        cfgCpol := some d.cfgCpol
        cfgCpha := some d.cfgCpha
        cfgDevsel := some d.cfgDevsel
        speedSel := some d.speedSel }
      link := { s.link with d2h := s.link.d2h ++ t }
      draws := n }

/-- R403 (B.ENTRY) and R404 (B.SPI_SELECT). -/
def Obligations.BbioEntryAndSpiSelect : Prop :=
  (∀ parse, decodeLink .bbio parse 0x00 = .bEntry ∧ decodeLink .bbio parse 0x01 = .bSpiSelect) ∧
  ∀ s : State,
    exec .bEntry s = .next
      { s with link := { s.link with d2h := s.link.d2h ++ [0x42, 0x42, 0x49, 0x4F, 0x31] } } ∧
    exec .bSpiSelect s = .next
      { s with
        dec := { s.dec with mode := .spi, parse := .idle }
        link := { s.link with d2h := s.link.d2h ++ [0x53, 0x50, 0x49, 0x31] } }

/-- R405 (B.RESET_TERM). The reply t is a draw; n is the model's draw counter. -/
def Obligations.ResetTermReturnsToTerminal : Prop :=
  (∀ parse, decodeLink .bbio parse 0x0F = .bResetTerm) ∧
  ∀ s : State, ∃ (t : List Byte) (n : Nat), exec .bResetTerm s = .next
    { s with
      dec := { s.dec with mode := .terminal, entryRun := 0, parse := .idle, csN := 1 }
      link := { s.link with d2h := s.link.d2h ++ t }
      draws := n }

/-- R406 (B.UNDEF) and R419 (S.UNDEF): exactly the bytes R315 lists are undefined, and each sends DEC to
DESYNC. The reply t is a draw; n is the model's draw counter. -/
def Obligations.UndefinedBytesDesynchronise : Prop :=
  (∀ parse b, decodeLink .bbio parse b = .bUndef b ↔ b ≠ 0x00 ∧ b ≠ 0x01 ∧ b ≠ 0x0F) ∧
  (∀ b : Byte, decodeLink .spi .idle b = .sUndef b ↔
    b ≠ 0x00 ∧ b ≠ 0x02 ∧ b ≠ 0x03 ∧ b ≠ 0x04 ∧ ¬(0x60 ≤ b.toNat ∧ b.toNat ≤ 0x67) ∧
      ¬(0x80 ≤ b.toNat ∧ b.toNat ≤ 0x8F)) ∧
  ∀ (i : Instr) (b : Byte) (s : State), i = .bUndef b ∨ i = .sUndef b →
    ∃ (t : List Byte) (n : Nat), exec i s = .next
      { s with
        dec := { s.dec with mode := .desync, parse := .idle }
        link := { s.link with d2h := s.link.d2h ++ t }
        draws := n }

/-- R411 (S.EXIT_BBIO): leaving SPI mode releases chip-select. -/
def Obligations.ExitBbioReleasesChipSelect : Prop :=
  decodeLink .spi .idle 0x00 = .sExitBbio ∧
  ∀ s : State, exec .sExitBbio s = .next
    { s with
      dec := { s.dec with mode := .bbio, parse := .idle, csN := 1 }
      link := { s.link with d2h := s.link.d2h ++ [0x42, 0x42, 0x49, 0x4F, 0x31] } }

/-- R412 (S.CS_LOW) and R413 (S.CS_HIGH). -/
def Obligations.ChipSelectCommands : Prop :=
  decodeLink .spi .idle 0x02 = .sCsLow ∧ decodeLink .spi .idle 0x03 = .sCsHigh ∧
  ∀ s : State,
    exec .sCsLow s = .next
      { s with dec := { s.dec with csN := 0 }, link := { s.link with d2h := s.link.d2h ++ [0x01] } } ∧
    exec .sCsHigh s = .next
      { s with dec := { s.dec with csN := 1 }, link := { s.link with d2h := s.link.d2h ++ [0x01] } }

/-- R414 (S.CFG) and R415 (S.SPEED), for every one of their bytes. -/
def Obligations.ConfigurationCommands : Prop :=
  (∀ b : Byte, 0x80 ≤ b.toNat → b.toNat ≤ 0x8F → decodeLink .spi .idle b =
    .sCfg (BitVec.ofBool (b.getLsbD 3)) (BitVec.ofBool (b.getLsbD 2)) (BitVec.ofBool (b.getLsbD 1))
      (BitVec.ofBool (b.getLsbD 0))) ∧
  (∀ b : Byte, 0x60 ≤ b.toNat → b.toNat ≤ 0x67 →
    decodeLink .spi .idle b = .sSpeed (BitVec.ofNat 3 (b.toNat % 8))) ∧
  (∀ (e p h d : Bit) (s : State), exec (.sCfg e p h d) s = .next
    { s with
      dec := { s.dec with cfgEn := some e, cfgCpol := some p, cfgCpha := some h, cfgDevsel := some d }
      link := { s.link with d2h := s.link.d2h ++ [0x01] } }) ∧
  ∀ (r : Rate) (s : State), exec (.sSpeed r) s = .next
    { s with dec := { s.dec with speedSel := some r }, link := { s.link with d2h := s.link.d2h ++ [0x01] } }

/-- R416 (S.WTR): the header begins, with no reply. -/
def Obligations.WtrOpcodeBeginsTheHeader : Prop :=
  decodeLink .spi .idle 0x04 = .sWtr ∧
  ∀ s : State, exec .sWtr s = .next { s with dec := { s.dec with parse := .hdr 0 [] } }

/-- R417 (S.WTR_HDR): the first three header bytes are kept; the fourth completes the counts, big-endian,
and a count above 4096 is answered NACK, N = 0 executes at once, and otherwise the payload follows.
`wtrExecute` is the transfer of `TransferMovesThePayloadAndReads`. -/
def Obligations.HeaderBytes : Prop :=
  (∀ k acc b, decodeLink .spi (.hdr k acc) b = .sWtrHdr b) ∧
  (∀ (b : Byte) (k : Nat) (acc : List Byte) (s : State), s.dec.parse = .hdr k acc → k + 1 < 4 →
    exec (.sWtrHdr b) s = .next { s with dec := { s.dec with parse := .hdr (k + 1) (acc ++ [b]) } }) ∧
  ∀ (h1 h2 h3 h4 : Byte) (k : Nat) (s : State), s.dec.parse = .hdr k [h1, h2, h3] → 3 ≤ k →
    exec (.sWtrHdr h4) s = .next
      (if 4096 < 256 * h1.toNat + h2.toNat ∨ 4096 < 256 * h3.toNat + h4.toNat then
        { s with dec := { s.dec with parse := .idle }, link := { s.link with d2h := s.link.d2h ++ [0x00] } }
      else if 256 * h1.toNat + h2.toNat = 0 then
        wtrExecute [] (256 * h3.toNat + h4.toNat) { s with dec := { s.dec with parse := .idle } }
      else
        { s with dec := { s.dec with
            parse := .data (BitVec.ofNat 16 (256 * h1.toNat + h2.toNat))
              (BitVec.ofNat 16 (256 * h3.toNat + h4.toNat)) [] } })

/-- R418 (S.WTR_DATA): a payload byte is kept, and the last one runs the transfer. The first part is the
instruction; the second says the same of whatever instruction the byte is read as, an ISP instruction
included. -/
def Obligations.PayloadBytes : Prop :=
  ∀ (b : Byte) (n m : Count) (acc : List Byte) (s : State), s.dec.parse = .data n m acc →
    let t := if acc.length + 1 = n.toNat then
        wtrExecute (acc ++ [b]) m.toNat { s with dec := { s.dec with parse := .idle } }
      else { s with dec := { s.dec with parse := .data n m (acc ++ [b]) } }
    exec (.sWtrData b) s = .next t ∧ exec (decodeLink .spi (.data n m acc) b) s = .next t

/-- Where a header or payload byte's meaning stops: only with the parser elsewhere, where R307 decodes no
such instruction, or with a header that R133 does not allow (the model's own fault, log entry 13). -/
def Obligations.FrameBytesNeedTheirParserState : Prop :=
  ∀ (b : Byte) (s : State),
    ((∀ k acc, s.dec.parse ≠ .hdr k acc) → exec (.sWtrHdr b) s = .fault .parserMismatch) ∧
    (∀ k acc, s.dec.parse = .hdr k acc → 3 ≤ k → acc.length ≠ 3 →
      exec (.sWtrHdr b) s = .fault .parserMismatch) ∧
    ((∀ n m acc, s.dec.parse ≠ .data n m acc) → exec (.sWtrData b) s = .fault .parserMismatch)

/-- R421 (X.ANY): registers d, bus records l and reply t are draws; only 0x00 may leave DESYNC, by the draw
resync, with "BBIO1"; n is the model's draw counter. That a drawn configuration or rate register holds a
value, and never ⊥, is the model's (DEDUCED, log entry 11). -/
def Obligations.DesyncByte : Prop :=
  (∀ parse b, decodeLink .desync parse b = .xAny b) ∧
  ∀ (b : Byte) (s : State), ∃ (d : SpiDraw) (l : List Exchange) (t : List Byte) (resync : Bool) (n : Nat),
    let drawn : Dec := { s.dec with
      csN := d.csN
      cfgEn := some d.cfgEn
      cfgCpol := some d.cfgCpol
      cfgCpha := some d.cfgCpha
      cfgDevsel := some d.cfgDevsel
      speedSel := some d.speedSel }
    exec (.xAny b) s = .next
      (if b = 0x00 ∧ resync = true then
        { s with
          dec := { drawn with mode := .bbio, parse := .idle }
          bus := { log := s.bus.log ++ l }
          link := { s.link with d2h := s.link.d2h ++ (t ++ [0x42, 0x42, 0x49, 0x4F, 0x31]) }
          draws := n }
      else
        { s with
          dec := drawn
          bus := { log := s.bus.log ++ l }
          link := { s.link with d2h := s.link.d2h ++ t }
          draws := n })

/-! ### The transfer and the ISP instructions -/

/-- R453 with R451 and R452: a transfer appends one record per payload byte and then one per byte read,
each with the select line, the configuration and the rate DEC holds, FILL_BYTE shown in the read phase,
each answered by the target from the history before it; the reply is 01 and the answers of the read phase;
nothing else changes. The enable bit is in the record by R135 and R455, not by R451's tuple (DEDUCED, log
entry 23). -/
def Obligations.TransferMovesThePayloadAndReads : Prop :=
  ∀ (p : List Byte) (m : Nat) (s : State), ∃ log : List Exchange,
    wtrExecute p m s =
      { s with
        bus := { log := s.bus.log ++ log }
        link := { s.link with d2h := s.link.d2h ++ 0x01 :: (log.drop p.length).map Exchange.miso } } ∧
    log.map Exchange.req = (p ++ List.replicate m Config.fillByte).map (fun b =>
      { csN := s.dec.csN, cfgEn := s.dec.cfgEn, cpol := s.dec.cfgCpol, cpha := s.dec.cfgCpha, devsel := s.dec.cfgDevsel,
        speedSel := s.dec.speedSel, mosi := b }) ∧
    ∀ k r, log[k]? = some r → r.miso = Config.tgt (s.bus.log ++ log.take k) r.req

/-- R502 to R505, bus effect and reply: each ISP instruction puts its bytes and the fill bytes on the bus in
one transfer, with DEC's select line and configuration (the enable bit among it: DEDUCED, log entry 23), each
exchange answered by the target from the history before it, and replies 01 and the bytes read; nothing else
changes but the parser, which is idle. -/
def Obligations.IspInstructionsOnTheBus : Prop :=
  ∀ (i : Instr) (s : State) (bytes : List Byte) (reads : Nat),
    ((i = .ispPe ∧ bytes = [0xAC, 0x53, 0x00, 0x00] ∧ reads = 4) ∨
     (∃ k : BitVec 2, i = .ispRsig k ∧ bytes = [0x30, 0x00, k.setWidth 8] ∧ reads = 1) ∨
     (∃ a : WordAddr, i = .ispRdl a ∧ reads = 1 ∧
       bytes = [0x20, BitVec.ofNat 8 (a.toNat / 256), BitVec.ofNat 8 (a.toNat % 256)]) ∨
     (∃ a : WordAddr, i = .ispRdh a ∧ reads = 1 ∧
       bytes = [0x28, BitVec.ofNat 8 (a.toNat / 256), BitVec.ofNat 8 (a.toNat % 256)])) →
    ∃ log : List Exchange,
      exec i s = .next
        { s with
          dec := { s.dec with parse := .idle }
          bus := { log := s.bus.log ++ log }
          link := { s.link with d2h := s.link.d2h ++ 0x01 :: (log.drop bytes.length).map Exchange.miso } } ∧
      log.map Exchange.req = (bytes ++ List.replicate reads Config.fillByte).map (fun b =>
        { csN := s.dec.csN, cfgEn := s.dec.cfgEn, cpol := s.dec.cfgCpol, cpha := s.dec.cfgCpha, devsel := s.dec.cfgDevsel,
          speedSel := s.dec.speedSel, mosi := b }) ∧
      ∀ k r, log[k]? = some r → r.miso = Config.tgt (s.bus.log ++ log.take k) r.req

/-- R305, R311, R319, R416 to R418: DEC in SPI mode with the parser idle, fed a whole frame of at most 4096
payload bytes and 4096 reads, ends with the parser idle and exactly the effect of the transfer of that
payload, whatever the payload's bytes are. -/
def Obligations.WholeFrameRunsOneTransfer : Prop :=
  ∀ (p : List Byte) (m : Nat) (s : State),
    s.dec.mode = .spi → s.dec.parse = .idle → p.length ≤ 4096 → m ≤ 4096 →
    consumeAll
      ([0x04, BitVec.ofNat 8 (p.length / 256), BitVec.ofNat 8 (p.length % 256),
        BitVec.ofNat 8 (m / 256), BitVec.ofNat 8 (m % 256)] ++ p) s =
      .next (wtrExecute p m s)

/-- R316: a header whose write or read count is above 4096 is answered 00; no exchange happens and the
parser is idle again, so that what follows is read as commands. -/
def Obligations.OversizedHeaderIsRefused : Prop :=
  ∀ (n m : Nat) (s : State), s.dec.mode = .spi → s.dec.parse = .idle → n < 65536 → m < 65536 →
    4096 < n ∨ 4096 < m →
    consumeAll [0x04, BitVec.ofNat 8 (n / 256), BitVec.ofNat 8 (n % 256),
        BitVec.ofNat 8 (m / 256), BitVec.ofNat 8 (m % 256)] s =
      .next { s with link := { s.link with d2h := s.link.d2h ++ [0x00] } }

/-- R418, R824: bytes that do not complete the payload are swallowed, whatever they are, the entry byte and
the exit sequence included: DEC stays in the frame, replies nothing and touches no bus. -/
def Obligations.UnfinishedFrameSwallowsBytes : Prop :=
  ∀ (bs acc : List Byte) (n m : Count) (s : State), s.dec.mode = .spi → s.dec.parse = .data n m acc →
    acc.length + bs.length < n.toNat →
    consumeAll bs s = .next { s with dec := { s.dec with parse := .data n m (acc ++ bs) } }

/-- R503 to R505, meaning under the premises of R506, in any run. At time k of the session under way at time a
DEC runs a read instruction. If the target conforms in that session, the select line has been low since
`start`, the interval so far is whole groups and holds a program-enable group, then the byte replied is the
signature byte, the low byte of the word or its high byte. If the flash is stable, a flash read is answered
with its byte whatever the interval. How the premises read a run is log entry 24 (DEDUCED), and that the frame's
last byte is the instruction log entry 7 (DEDUCED). -/
def Obligations.ConformingTargetAnswersReads : Prop :=
  ∀ (sigT : Fin 3 → Byte) (flashT : WordAddr → BitVec 16) (r : Nat → State) (a k : Nat) (i : Instr)
    (answer : Byte),
    IsRun r → InSession r a k → (r k).running = some i →
    ((∃ n : Fin 3, i = .ispRsig (BitVec.ofNat 2 n) ∧ answer = sigT n) ∨
     (∃ w, i = .ispRdl w ∧ answer = (flashT w).extractLsb' 0 8) ∨
     (∃ w, i = .ispRdh w ∧ answer = (flashT w).extractLsb' 8 8)) →
    (∀ start g, TargetConforms sigT flashT r a → selectLowSince r k = some start →
      ((r k).bus.log.length - start) % 4 = 0 → 4 * g < (r k).bus.log.length - start →
      enablesProgramming (groupAt ((r k).bus.log.drop start) g) →
      (r (k + 1)).link.d2h = (r k).link.d2h ++ [0x01, answer]) ∧
    (FlashStable flashT r a → (∀ n, i ≠ .ispRsig n) →
      (r (k + 1)).link.d2h = (r k).link.d2h ++ [0x01, answer])

/-! ### What the decoder never does -/

/-- R152, R400, R422: no instruction touches SEQ, the host's bytes or the link; it only appends to the
replies and to the bus history. -/
def Obligations.InstructionsLeaveSequencerAndLinkAlone : Prop :=
  ∀ (i : Instr) (s t : State), exec i s = .next t →
    t.seq = s.seq ∧ t.link.h2d = s.link.h2d ∧ t.link.up = s.link.up ∧ t.turn = s.turn ∧
    t.sessions = s.sessions ∧ (∀ a, t.seq.image.readByte a = s.seq.image.readByte a) ∧
    (∃ r, t.link.d2h = s.link.d2h ++ r) ∧ ∃ l, t.bus.log = s.bus.log ++ l

/-- R134, R135, R136, R452, R457: which instruction can change which SPI register, and which can add to the
bus history. The clause on `dec.entry_run` (R132, R401, R405) follows the command rules, which write it in
these three instructions alone, where R151 says 'mode changes' (DEDUCED, log entry 14). -/
def Obligations.SpiRegistersAreWrittenOnlyByTheirCommands : Prop :=
  ∀ (i : Instr) (s t : State), exec i s = .next t →
    let drawn := (∃ b, i = .tOther b) ∨ ∃ b, i = .xAny b
    (t.dec.csN ≠ s.dec.csN → i = .sCsLow ∨ i = .sCsHigh ∨ i = .sExitBbio ∨ i = .bResetTerm ∨ drawn) ∧
    (t.dec.cfgEn ≠ s.dec.cfgEn ∨ t.dec.cfgCpol ≠ s.dec.cfgCpol ∨ t.dec.cfgCpha ≠ s.dec.cfgCpha ∨
      t.dec.cfgDevsel ≠ s.dec.cfgDevsel → (∃ e p h d, i = .sCfg e p h d) ∨ drawn) ∧
    (t.dec.speedSel ≠ s.dec.speedSel → (∃ r, i = .sSpeed r) ∨ drawn) ∧
    (t.dec.entryRun ≠ s.dec.entryRun → i = .tEntry ∨ i = .bResetTerm ∨ ∃ b, i = .tOther b) ∧
    (t.bus ≠ s.bus → (∃ b, i = .sWtrHdr b ∨ i = .sWtrData b ∨ i = .xAny b) ∨ ispFrame i ≠ none)

/-- R423: the mode after DEC executes one byte, in every mode. -/
def Obligations.ModeTransitions : Prop :=
  ∀ (b : Byte) (s t : State), consume b s = .next t →
    match s.dec.mode with
    | .terminal => t.dec.mode =
        if b = 0x00 ∧ Config.entryThreshold ≤ s.dec.entryRun + 1 then .bbio else .terminal
    | .bbio => t.dec.mode =
        if b = 0x00 then .bbio else if b = 0x01 then .spi else if b = 0x0F then .terminal else .desync
    | .spi => t.dec.mode =
        if s.dec.parse ≠ .idle then .spi
        else if b = 0x00 then .bbio
        else if b = 0x02 ∨ b = 0x03 ∨ b = 0x04 ∨ (0x60 ≤ b.toNat ∧ b.toNat ≤ 0x67) ∨
          (0x80 ≤ b.toNat ∧ b.toNat ≤ 0x8F) then .spi
        else .desync
    | .desync => t.dec.mode = if b = 0x00 ∧ Config.resync s.draws = true then .bbio else .desync

/-- R423: from every state but DESYNC or an unfinished frame, the exit sequence 00 0F ends in TERMINAL with
the run at 0; no exchange happens, and chip-select is released unless DEC was in TERMINAL and stayed
there. -/
def Obligations.ExitSequenceEndsInTerminal : Prop :=
  ∀ s : State, DecStartsKnown s →
    ∃ t, consumeAll [0x00, 0x0F] s = .next t ∧ t.dec.mode = .terminal ∧ t.dec.entryRun = 0 ∧
      t.dec.parse = .idle ∧ t.bus = s.bus ∧ t.seq = s.seq ∧
      (s.dec.mode ≠ .terminal ∨ Config.entryThreshold ≤ s.dec.entryRun + 1 → t.dec.csN = 1)

/-- R401 over a whole run of ENTRY bytes: each byte is answered by its terminal output; when the run reaches
ENTRY_THRESHOLD, DEC enters BBIO and exactly one "BBIO1" follows; until then DEC only counts. -/
def Obligations.EntryRunOpensBbio : Prop :=
  ∀ (k : Nat) (s : State), s.dec.mode = .terminal → s.dec.entryRun + k ≤ Config.entryThreshold → 0 < k →
    ∃ t, consumeAll (List.replicate k 0x00) s = .next t ∧
      t.dec.mode = (if s.dec.entryRun + k = Config.entryThreshold then .bbio else .terminal) ∧
      t.dec.entryRun = (if s.dec.entryRun + k = Config.entryThreshold then 0 else s.dec.entryRun + k) ∧
      t.link.d2h = s.link.d2h ++ (List.range k).flatMap (fun j => Config.terminalOutput (s.draws + j)) ++
        (if s.dec.entryRun + k = Config.entryThreshold then [0x42, 0x42, 0x49, 0x4F, 0x31] else []) ∧
      t.bus = s.bus ∧ t.seq = s.seq

/-! ### Steps, reset and sessions -/

/-- R801 and R802: the machine after power-on, at the start of its first session: DEC, the link and the bus,
then every SEQ element, the session's parameters with the decided values of R8 and its OPEN parameters. -/
def Obligations.ResetLeavesTheSpecValues : Prop :=
  State.reset.dec =
    { mode := .terminal, entryRun := 0, parse := .idle, csN := 1, cfgEn := none, cfgCpol := none,
      cfgCpha := none, cfgDevsel := none, speedSel := none } ∧
  State.reset.link = { h2d := [], d2h := [], up := false } ∧ State.reset.bus.log = [] ∧
  (∃ at', State.reset.seq =
    { pc := .idle, point := at', attempt := 0, sigIdx := 0, addr := 0, peReply := none,
      sigGot := #v[none, none, none], image := [], err := none, exitCount := 0, linkOpen := false,
      output := none, trace := [], cfg := State.reset.seq.cfg }) ∧
  State.reset.seq.cfg =
    { cfgEn := 1, cfgCpol := 0, cfgCpha := 0, cfgDevsel := Config.cfgDevsel, speedSel := Config.speedSel,
      addrSpaceSize := Config.addrSpaceSize, expectedSig := #v[0x1E, 0x95, 0x0F], maxEntryAttempts := 20 }

/-- R714, R802, R803: when SEQ is in a final phase and the outside asks for a further session, SEQ starts
again from its reset values; DEC, the link and the bus are untouched. That the request stands in a list is
the model's choice (log entry 4). -/
def Obligations.NextSessionResetsOnlyTheSequencer : Prop :=
  ∀ (s : State) (c : SessionCfg) (rest : List SessionCfg),
    s.seq.pc = .doneOk ∨ s.seq.pc = .doneErr → s.sessions = c :: rest →
    seqTurn s = .next
      { s with
        seq :=
          { pc := .idle, point := .start, attempt := 0, sigIdx := 0, addr := 0, peReply := none,
            sigGot := #v[none, none, none], image := [], err := none, exitCount := 0, linkOpen := false,
            output := none, trace := [], cfg := c }
        sessions := rest }

/-- R400: DEC's step consumes exactly one byte and runs the instruction it decodes to, whole; the next turn
is then drawn (model's scheduling, log entry 3). With no byte DEC is idle, which is no fault, in every state
in which some agent still has a step (the model's fault where none has, log entry 12). -/
def Obligations.StepRunsTheDecodedInstruction : Prop :=
  (∀ (s : State) (b : Byte) (rest : List Byte) (i : Instr), s.turn = .dec → s.link.h2d = b :: rest →
    decodeLink s.dec.mode s.dec.parse b = i →
    step s = match exec i { s with link := { s.link with h2d := rest } } with
      | .next t => .next { t with turn := Config.nextTurn t.draws, draws := t.draws + 1 }
      | .fault r => .fault r
      | .refused r => .refused r) ∧
  ∀ s : State, s.turn = .dec → s.link.h2d = [] → s.ended = false →
    step s = .next { s with turn := Config.nextTurn s.draws, draws := s.draws + 1 }

/-- R123, R551, R574: SEQ's turn runs its phase; a turn of the link drops it and nothing else; and a step ends
the run exactly when SEQ is in a final phase, no session is asked for and DEC has no byte. That agents take
turns is log entry 3, the list of sessions log entry 4, the fault at the end log entry 12. -/
def Obligations.StepOfTheOtherAgents : Prop :=
  (∀ s : State, s.turn = .seq → s.ended = false →
    step s = match seqTurn s with
      | .next t => .next { t with turn := Config.nextTurn t.draws, draws := t.draws + 1 }
      | .fault r => .fault r
      | .refused r => .refused r) ∧
  (∀ s : State, s.turn = .link → s.ended = false →
    step s = .next
      { s with link := { s.link with up := false }, turn := Config.nextTurn s.draws, draws := s.draws + 1 }) ∧
  (∀ s : State, s.ended = true ↔
    (s.seq.pc = .doneOk ∨ s.seq.pc = .doneErr) ∧ s.sessions = [] ∧ s.link.h2d = []) ∧
  ∀ s : State, step s = .fault .runEnded ↔ s.ended = true

/-! ### The sequencer (43_sequencer.md) and its errors (60_exceptions.md) -/

/-- R711: what raising an error does, whole. `at'` is the position inside the phase SEQ goes to, the model's
own field (log entry 5). -/
def Obligations.RaiseRecordsTheFirstErrorAndTearsDown : Prop :=
  ∀ (s : State) (e : Err), ∃ at', s.raise e =
    { s with seq := { s.seq with
        err := if s.seq.err = none then some e else s.seq.err
        trace := s.seq.trace ++ [.fault e]
        pc := if s.seq.linkOpen = false then .doneErr else if s.seq.exitCount = 0 then .exit else .close
        point := at' } }

/-- R701: the kind and the code of each sub-cause. -/
def Obligations.ErrorCodes : Prop :=
  ∀ step exp act,
    (Err.of .openFailed step exp act).kind = .connection ∧ ErrSub.openFailed.code = (1, 1) ∧
    (Err.of .linkLost step exp act).kind = .connection ∧ ErrSub.linkLost.code = (1, 2) ∧
    (Err.of .ackMismatch step exp act).kind = .protocol ∧ ErrSub.ackMismatch.code = (2, 1) ∧
    (Err.of .shortRead step exp act).kind = .protocol ∧ ErrSub.shortRead.code = (2, 2) ∧
    (Err.of .entryExhausted step exp act).kind = .protocol ∧ ErrSub.entryExhausted.code = (2, 3) ∧
    (Err.of .sigMismatch step exp act).kind = .identity ∧ ErrSub.sigMismatch.code = (3, 1)

/-- R707: which errors carry operator text, and which text. -/
def Obligations.OperatorText : Prop :=
  ∀ e : Err, e.operatorText =
    if e.step = .sCsLow ∨ e.step = .sCsHigh then some "cannot switch chip-select" else none

/-- R124: what a read finds, in each of its four cases, and what a write does. -/
def Obligations.LinkReadAndWrite : Prop :=
  (∀ (n : Nat) (s : State), linkRead n s =
    if s.link.up = false then .lost
    else if n ≤ s.link.d2h.length then
      .got (s.link.d2h.take n) { s with link := { s.link with d2h := s.link.d2h.drop n } }
    else if Config.readTimesOut s.draws = true then
      .got s.link.d2h { s with link := { s.link with d2h := [] }, draws := s.draws + 1 }
    else .holding { s with draws := s.draws + 1 }) ∧
  (∀ (step : StepId) (bs : List Byte) (s : State) (rest : State → State), linkWrite step bs s rest =
    if s.link.up = true then rest { s with link := { s.link with h2d := s.link.h2d ++ bs } }
    else s.raise { kind := .connection, sub := .linkLost, step := step, expected := [], actual := [] }) ∧
  ∀ (step : StepId) (n : Nat) (s : State) (rest : List Byte → State → State), s.link.up = false →
    onRead step n s rest =
      s.raise { kind := .connection, sub := .linkLost, step := step, expected := [], actual := [] }

/-- R123: a link that is up falls by the draw that loses it or in P_CLOSE, and in no other step. That the draw
is a turn of its own, between two agents' steps, is the model's (DESIGN CHOICE, log entry 3). -/
def Obligations.LinkFallsOnlyByItsLossOrTheClose : Prop :=
  ∀ s t : State, step s = .next t → s.link.up = true → t.link.up = false →
    s.turn = .link ∨ (s.turn = .seq ∧ s.seq.pc = .close)

/-- R559, R560, R123: the session's start and the opening of the link, whose failure is a draw. -/
def Obligations.SessionStartAndOpen : Prop :=
  (∀ s : State, s.seq.pc = .idle → seqTurn s = .next
    { s with seq := { s.seq with
        pc := .opening, point := .start, trace := s.seq.trace ++ [.sessionStart s.seq.cfg] } }) ∧
  ∀ s : State, s.seq.pc = .opening → s.seq.linkOpen = false → s.seq.err = none →
    seqTurn s = .next
      (if Config.openFails Config.port Config.baud s.draws = true then
        let e : Err :=
          { kind := .connection, sub := .openFailed, step := .sOpen, expected := [], actual := [] }
        { s with
          seq := { s.seq with
            pc := .doneErr, point := .start, err := some e, trace := s.seq.trace ++ [.fault e] }
          draws := s.draws + 1 }
      else
        { s with
          seq := { s.seq with pc := .entry, point := .start, linkOpen := true }
          link := { h2d := [], d2h := [], up := true }
          draws := s.draws + 1 })

/-- R552, R562 to R565, R571: the control transactions, at each point and with the link up or down. The
write comes with its TxBegin event; a whole and matching reply moves to the next phase; a whole but
different one raises ACK_MISMATCH and a short one SHORT_READ, in both cases after the TxEnd event; a link
that is down raises LINK_LOST. -/
def Obligations.ControlTransactions : Prop :=
  ∀ (s : State) (step : StepId) (c : Byte) (exp : List Byte) (nxt : Phase),
    s.seq.control = some (step, c, exp, nxt) →
    (s.seq.point = .start → seqTurn s = .next
      (let v : State := { s with seq := { s.seq with trace := s.seq.trace ++ [.txBegin step [c]] } }
      if s.link.up = true then
        { v with
          seq := { v.seq with point := .awaitAck }
          link := { s.link with h2d := s.link.h2d ++ [c] } }
      else v.raise { kind := .connection, sub := .linkLost, step := step, expected := [], actual := [] })) ∧
    (s.seq.point = .awaitAck → s.link.up = true → exp.length ≤ s.link.d2h.length →
      let r := s.link.d2h.take exp.length
      let v : State := { s with
        seq := { s.seq with trace := s.seq.trace ++ [.txEnd step r] }
        link := { s.link with d2h := s.link.d2h.drop exp.length } }
      seqTurn s = .next
        (if r = exp then { v with seq := { v.seq with pc := nxt, point := .start } }
        else v.raise
          { kind := .protocol, sub := .ackMismatch, step := step, expected := exp.map Pat.byte, actual := r })) ∧
    (s.seq.point = .awaitAck → s.link.up = true → s.link.d2h.length < exp.length →
      seqTurn s = .next
        (if Config.readTimesOut s.draws = true then
          State.raise
            { s with
              seq := { s.seq with trace := s.seq.trace ++ [.txEnd step s.link.d2h] }
              link := { s.link with d2h := [] }
              draws := s.draws + 1 }
            { kind := .protocol, sub := .shortRead, step := step, expected := exp.map Pat.byte,
              actual := s.link.d2h }
        else { s with draws := s.draws + 1 })) ∧
    (s.seq.point = .awaitAck → s.link.up = false → seqTurn s = .next
      (s.raise { kind := .connection, sub := .linkLost, step := step, expected := [], actual := [] }))

/-- R553, R566 to R569, R708: the framed transactions up to the reply, at each point and with the link up
or down. The frame is written with its TxBegin event; the acknowledgment 01 leads to the read of the
reply; a wrong or missing acknowledgment raises before any reply byte is read; a short reply raises
SHORT_READ; a link that is down raises LINK_LOST. -/
def Obligations.FramedTransactions : Prop :=
  ∀ (s : State) (step : StepId) (f : List Byte) (m : Nat), s.seq.framed = some (step, f, m) →
    let lost : Err := { kind := .connection, sub := .linkLost, step := step, expected := [], actual := [] }
    (s.seq.point = .start → seqTurn s = .next
      (let v : State := { s with seq := { s.seq with trace := s.seq.trace ++ [.txBegin step f] } }
      if s.link.up = true then
        { v with
          seq := { v.seq with point := .awaitAck }
          link := { s.link with h2d := s.link.h2d ++ f } }
      else v.raise lost)) ∧
    (∀ b d, s.seq.point = .awaitAck → s.link.up = true → s.link.d2h = b :: d →
      let u : State := { s with link := { s.link with d2h := d } }
      seqTurn s = .next
        (if b = 0x01 then { u with seq := { s.seq with point := .awaitReply [0x01] } }
        else State.raise { u with seq := { s.seq with trace := s.seq.trace ++ [.txEnd step [b]] } }
          { kind := .protocol, sub := .ackMismatch, step := step, expected := [.byte 0x01], actual := [b] })) ∧
    (s.seq.point = .awaitAck → s.link.up = true → s.link.d2h = [] →
      seqTurn s = .next
        (if Config.readTimesOut s.draws = true then
          State.raise
            { s with
              seq := { s.seq with trace := s.seq.trace ++ [.txEnd step []] }
              draws := s.draws + 1 }
            { kind := .protocol, sub := .shortRead, step := step, expected := [.byte 0x01], actual := [] }
        else { s with draws := s.draws + 1 })) ∧
    (∀ a, s.seq.point = .awaitReply a → s.link.up = true → s.link.d2h.length < m →
      seqTurn s = .next
        (if Config.readTimesOut s.draws = true then
          State.raise
            { s with
              seq := { s.seq with trace := s.seq.trace ++ [.txEnd step (a ++ s.link.d2h)] }
              link := { s.link with d2h := [] }
              draws := s.draws + 1 }
            { kind := .protocol, sub := .shortRead, step := step, expected := List.replicate m .any,
              actual := s.link.d2h }
        else { s with draws := s.draws + 1 })) ∧
    (s.seq.point ≠ .start → s.link.up = false → seqTurn s = .next (s.raise lost))

/-- R561: one attempt of the entry handshake. The attempt is counted and the entry byte written; a reply of
five bytes, or the bytes present when the read times out, is "BBIO1" or is discarded; after the last
attempt ENTRY_EXHAUSTED is raised. -/
def Obligations.EntryHandshake : Prop :=
  ∀ s : State, s.seq.pc = .entry →
    let bbio1 : List Byte := [0x42, 0x42, 0x49, 0x4F, 0x31]
    let lost : Err := { kind := .connection, sub := .linkLost, step := .sEntry, expected := [], actual := [] }
    let after (r : List Byte) (u : State) : State :=
      let v : State := { u with seq := { u.seq with trace := u.seq.trace ++ [.txEnd .sEntry r] } }
      if r = bbio1 then { v with seq := { v.seq with pc := .busSel, point := .start } }
      else if s.seq.attempt < s.seq.cfg.maxEntryAttempts then
        { v with seq := { v.seq with pc := .entry, point := .start } }
      else v.raise
        { kind := .protocol, sub := .entryExhausted, step := .sEntry
          expected := [.byte 0x42, .byte 0x42, .byte 0x49, .byte 0x4F, .byte 0x31], actual := r }
    (s.seq.point = .start → seqTurn s = .next
      (let v : State := { s with
        seq := { s.seq with
          attempt := s.seq.attempt + 1, trace := s.seq.trace ++ [.txBegin .sEntry [0x00]] } }
      if s.link.up = true then
        { v with
          seq := { v.seq with point := .awaitAck }
          link := { s.link with h2d := s.link.h2d ++ [0x00] } }
      else v.raise lost)) ∧
    (s.seq.point = .awaitAck → s.link.up = false → seqTurn s = .next (s.raise lost)) ∧
    (s.seq.point = .awaitAck → s.link.up = true → 5 ≤ s.link.d2h.length → seqTurn s = .next
      (after (s.link.d2h.take 5) { s with link := { s.link with d2h := s.link.d2h.drop 5 } })) ∧
    (s.seq.point = .awaitAck → s.link.up = true → s.link.d2h.length < 5 → seqTurn s = .next
      (if Config.readTimesOut s.draws = true then
        after s.link.d2h { s with link := { s.link with d2h := [] }, draws := s.draws + 1 }
      else { s with draws := s.draws + 1 }))

/-- R566: the four bytes after program enable are kept, whatever they are. -/
def Obligations.ProgramEnableReplyIsKept : Prop :=
  ∀ (s : State) (r0 r1 r2 r3 : Byte) (d : List Byte), s.seq.pc = .pe → s.seq.point = .awaitReply [0x01] →
    s.link.up = true → s.link.d2h = r0 :: r1 :: r2 :: r3 :: d →
    seqTurn s = .next
      { s with
        seq := { s.seq with
          peReply := some [r0, r1, r2, r3], pc := .sig, point := .start
          trace := s.seq.trace ++ [.txEnd .sPe [0x01, r0, r1, r2, r3]] }
        link := { s.link with d2h := d } }

/-- R567, R704: a signature byte is recorded and compared. A match moves to the next index, to the sweep, or
past an empty sweep; a mismatch raises IDENTITY naming the index and both bytes. -/
def Obligations.SignatureByteIsCompared : Prop :=
  ∀ (s : State) (i : Fin 3) (b : Byte) (d : List Byte), s.seq.pc = .sig → s.seq.point = .awaitReply [0x01] →
    s.seq.sigIdx.val = i.val → s.link.up = true → s.link.d2h = b :: d →
    let v : State := { s with
      seq := { s.seq with
        sigGot := s.seq.sigGot.set i (some b), trace := s.seq.trace ++ [.txEnd (.sSig i) [0x01, b]] }
      link := { s.link with d2h := d } }
    seqTurn s = .next
      (if b = s.seq.cfg.expectedSig[i] then
        { v with seq := { v.seq with
            sigIdx := i.succ
            point := .start
            addr := if i.val = 2 ∧ 0 < s.seq.cfg.addrSpaceSize.val then 0 else s.seq.addr
            pc := if i.val < 2 then .sig else if 0 < s.seq.cfg.addrSpaceSize.val then .rdl else .csHigh } }
      else v.raise
        { kind := .identity, sub := .sigMismatch, step := .sSig i
          expected := [.byte s.seq.cfg.expectedSig[i]], actual := [b] })

/-- R568 to R570, R207: a flash byte read is stored at the image's end and nowhere else; the low byte leads
to the high read of the same word, the high byte to the next word or the end of the sweep, with a progress
event at each multiple of 256. The address stored to is the one the meaning uses, the image's length. -/
def Obligations.FlashBytesAreAppended : Prop :=
  ∀ (s : State) (b : Byte) (d : List Byte), s.seq.pc = .rdl ∨ s.seq.pc = .rdh →
    s.seq.point = .awaitReply [0x01] → s.link.up = true → s.link.d2h = b :: d →
    ∃ t, seqTurn s = .next t ∧
      t.seq.image.readByte s.seq.image.length = some b ∧
      (∀ a, a ≠ s.seq.image.length → t.seq.image.readByte a = s.seq.image.readByte a) ∧
      t = { s with
        seq := { s.seq with
          image := t.seq.image
          point := .start
          addr := if s.seq.pc = .rdl then s.seq.addr else s.seq.addr + 1
          pc := if s.seq.pc = .rdl then .rdh
            else if (s.seq.addr + 1).toNat < s.seq.cfg.addrSpaceSize.val then .rdl else .csHigh
          trace := s.seq.trace ++
            (if s.seq.pc = .rdl then [.txEnd (.sRdl s.seq.addr.toNat) [0x01, b]]
            else .txEnd (.sRdh s.seq.addr.toNat) [0x01, b] ::
              (if (s.seq.addr + 1).toNat % 256 = 0 then [.progress (s.seq.addr + 1).toNat] else [])) }
        link := { s.link with d2h := d } }

/-- R568, R569 with R453 and R551, across the agents: SEQ at the start of a flash read, with both FIFOs empty
and DEC idle in SPI mode, then DEC eight times, then SEQ twice: four exchanges carry the opcode, the address
and the fill byte, the target's answer to the fourth is the byte stored at the image's end, and DEC and the
FIFOs are as before. Each of the four is answered by the target from the history before it. -/
def Obligations.FlashReadEndToEnd : Prop :=
  ∀ s : State, s.seq.pc = .rdl ∨ s.seq.pc = .rdh → s.seq.point = .start → s.link.up = true →
    s.link.h2d = [] → s.link.d2h = [] → s.dec.mode = .spi → s.dec.parse = .idle →
    ∃ s1 s2 s3 s4 e0 e1 e2 e3, seqTurn s = .next s1 ∧ decTurns 8 s1 = .next s2 ∧ seqTurn s2 = .next s3 ∧
      seqTurn s3 = .next s4 ∧
      s4.bus.log = s.bus.log ++ [e0, e1, e2, e3] ∧
      [e0, e1, e2, e3].map Exchange.req =
        [if s.seq.pc = .rdl then 0x20 else 0x28, BitVec.ofNat 8 (s.seq.addr.toNat / 256),
          BitVec.ofNat 8 (s.seq.addr.toNat % 256), Config.fillByte].map s.request ∧
      (∀ k e, [e0, e1, e2, e3][k]? = some e →
        e.miso = Config.tgt (s.bus.log ++ [e0, e1, e2, e3].take k) e.req) ∧
      s4.seq.image.readByte s.seq.image.length = some e3.miso ∧
      (∀ a, a ≠ s.seq.image.length → s4.seq.image.readByte a = s.seq.image.readByte a) ∧
      s4.dec = s.dec ∧ s4.link = s.link ∧ s4.seq.point = .start ∧
      (s.seq.pc = .rdl → s4.seq.pc = .rdh ∧ s4.seq.addr = s.seq.addr) ∧
      (s.seq.pc = .rdh → s4.seq.addr = s.seq.addr + 1 ∧
        s4.seq.pc = if (s.seq.addr + 1).toNat < s.seq.cfg.addrSpaceSize.val then .rdl else .csHigh)

/-- R572, R573, R574: the mode-exit sequence, the close, and the publishing of the image, which only a run
without an error does. The model's own: that the close empties `link.d2h` and keeps `link.h2d` (DEDUCED, log
entry 6), and that a turn of SEQ in a final phase passes, with no session asked for in the list of sessions
(DESIGN CHOICE, log entries 3 and 4). -/
def Obligations.ExitAndClose : Prop :=
  (∀ s : State, s.seq.pc = .exit →
    let v : State := { s with seq := { s.seq with
      exitCount := s.seq.exitCount + 1, trace := s.seq.trace ++ [.txBegin .sExit [0x00, 0x0F]] } }
    seqTurn s = .next
      (if s.link.up = true then
        { v with
          seq := { v.seq with pc := .close, point := .start, trace := v.seq.trace ++ [.txEnd .sExit []] }
          link := { s.link with h2d := s.link.h2d ++ [0x00, 0x0F] } }
      else v.raise { kind := .connection, sub := .linkLost, step := .sExit, expected := [], actual := [] })) ∧
  (∀ s : State, s.seq.pc = .close → seqTurn s = .next
    { s with
      seq := { s.seq with
        linkOpen := false
        point := .start
        output := if s.seq.err = none then some (s.seq.image.map Prod.snd) else s.seq.output
        trace := s.seq.trace ++ [.sessionEnd s.seq.err]
        pc := if s.seq.err = none then .doneOk else .doneErr }
      link := { s.link with d2h := [], up := false } }) ∧
  ∀ s : State, s.seq.pc = .doneOk ∨ s.seq.pc = .doneErr → s.sessions = [] → seqTurn s = .next s

/-- R113, R137, R152, R710: no phase touches DEC or the bus; within a session the configuration is fixed,
the trace only grows and a recorded error stays. -/
def Obligations.SequencerLeavesDecoderAndBusAlone : Prop :=
  ∀ s t : State, seqTurn s = .next t →
    t.dec = s.dec ∧ t.bus = s.bus ∧ t.turn = s.turn ∧
    (s.seq.pc ≠ .doneOk → s.seq.pc ≠ .doneErr →
      t.sessions = s.sessions ∧ t.seq.cfg = s.seq.cfg ∧ (∃ l, t.seq.trace = s.seq.trace ++ l) ∧
      ∀ e, s.seq.err = some e → t.seq.err = some e)

/-- R742: the trace is never read. Two states that differ in it alone step alike. -/
def Obligations.TraceDoesNotChangeBehaviour : Prop :=
  ∀ (s t : State) (trace : List Event), step s = .next t →
    ∃ trace', step { s with seq := { s.seq with trace := trace } } =
      .next { t with seq := { t.seq with trace := trace' } }

/-! ### Invariants of every run -/

/-- The invariant holds after reset. -/
def Obligations.InvariantHoldsAtReset : Prop := Inv State.reset

/-- R102 to R111, R132, R133, R205 to R207, R577 (c, e, f): every step keeps the invariant of Safety.lean:
counters in range, the image gapless and exactly as long as the sweep has come, no flash read without a
verified signature, the mode-exit sequence once, the output published exactly by a run without an error,
and DEC's parser in step with its mode. -/
def Obligations.EveryStepKeepsTheInvariant : Prop :=
  ∀ s t : State, Inv s → step s = .next t → Inv t

/-- Under the invariant the machine never stops but at the end of a run: every step of every agent, whatever
the draws, has a next state (R400, R551, R574). The model's own (DESIGN CHOICE): that an agent with nothing to
do lets its turn pass (log entry 3), the list of sessions (log entry 4), and the fault that ends a run (log
entry 12). -/
def Obligations.MachineStopsOnlyAtTheEndOfARun : Prop :=
  ∀ s : State, Inv s → (∃ t, step s = .next t) ∨
    (step s = .fault .runEnded ∧ (s.seq.pc = .doneOk ∨ s.seq.pc = .doneErr) ∧ s.sessions = [] ∧ s.link.h2d = [])

/-- The order of transactions holds after reset. -/
def Obligations.TransactionOrderHoldsAtReset : Prop := TransactionOrder State.reset.seq

/-- R575, R576, R577 (a to e): every step keeps the order of transactions of Safety.lean: what a session has
written is a first part of the success path's transactions, byte for byte and in its order, followed at
most by the mode-exit sequence, once. -/
def Obligations.EveryStepKeepsTheTransactionOrder : Prop :=
  ∀ s t : State, Inv s → TransactionOrder s.seq → step s = .next t → TransactionOrder t.seq

/-- R206, R573, R577 (f), R811: a run that ends in P_DONE_OK recorded no error, matched the signature, sent
the exit sequence once and published two bytes for each address; a run that ends in P_DONE_ERR published
nothing. -/
def Obligations.WhatAnEndedRunPublished : Prop :=
  ∀ s : State, Inv s →
    (s.seq.pc = .doneOk → s.endState.err = none ∧ s.endState.exitCount = 1 ∧
      s.endState.sigGot = #v[some 0x1E, some 0x95, some 0x0F] ∧
      ∃ out, s.endState.output = some out ∧ out.length = 2 * s.seq.cfg.addrSpaceSize.val ∧
        ∀ k (h : k < out.length), s.seq.image.readByte k = some out[k]) ∧
    (s.seq.pc = .doneErr → s.endState.err ≠ none ∧ s.endState.output = none)

/-- R576: the bytes a session has begun to write on the success path, from its trace: one for each entry
attempt, 38, 16 for each address, and two more with the mode-exit sequence. -/
def Obligations.SuccessPathByteCount : Prop :=
  ∀ s : State, Inv s → TransactionOrder s.seq →
    (s.seq.pc = .doneOk →
      (txBytes (begun s.seq.trace)).length = s.seq.attempt + 38 + 16 * s.seq.cfg.addrSpaceSize.val + 2) ∧
    (s.seq.pc = .exit → s.seq.err = none →
      (txBytes (begun s.seq.trace)).length = s.seq.attempt + 38 + 16 * s.seq.cfg.addrSpaceSize.val)

/-- R831: a run in which DEC's steps and the reads are taken fairly ends. From every state with the invariant,
whatever the draws, SEQ comes to a final phase. That SEQ's own steps are taken is the third part of `Fair`
(the model's turns, log entry 3). -/
def Obligations.EveryFairSessionEnds : Prop :=
  ∀ (r : Nat → State) (a : Nat), IsRun r → Fair r → Inv (r a) → ∃ k, a ≤ k ∧ (r k).sessionOver = true
end

