-- ==== Sys2Proof/Laws/State.lean ====
section
/-! SUPPORT. What each update of the state does to each field, once for all: an untouched agent is unchanged
as a whole, a touched one field by field. -/

namespace Sys2Proof.Machine.State

/-! ### tick -/

@[simp] theorem tick_seq (s : State) : s.tick.seq = s.seq := rfl
@[simp] theorem tick_link (s : State) : s.tick.link = s.link := rfl
@[simp] theorem tick_dec (s : State) : s.tick.dec = s.dec := rfl
@[simp] theorem tick_bus (s : State) : s.tick.bus = s.bus := rfl
@[simp] theorem tick_turn (s : State) : s.tick.turn = s.turn := rfl
@[simp] theorem tick_draws (s : State) : s.tick.draws = s.draws + 1 := rfl
@[simp] theorem tick_sessions (s : State) : s.tick.sessions = s.sessions := rfl

/-! ### reply -/

@[simp] theorem reply_seq (s : State) (bs : List Byte) : (s.reply bs).seq = s.seq := rfl
@[simp] theorem reply_link_h2d (s : State) (bs : List Byte) : (s.reply bs).link.h2d = s.link.h2d := rfl
@[simp] theorem reply_link_d2h (s : State) (bs : List Byte) : (s.reply bs).link.d2h = s.link.d2h ++ bs := rfl
@[simp] theorem reply_link_up (s : State) (bs : List Byte) : (s.reply bs).link.up = s.link.up := rfl
@[simp] theorem reply_dec (s : State) (bs : List Byte) : (s.reply bs).dec = s.dec := rfl
@[simp] theorem reply_bus (s : State) (bs : List Byte) : (s.reply bs).bus = s.bus := rfl
@[simp] theorem reply_turn (s : State) (bs : List Byte) : (s.reply bs).turn = s.turn := rfl
@[simp] theorem reply_draws (s : State) (bs : List Byte) : (s.reply bs).draws = s.draws := rfl
@[simp] theorem reply_sessions (s : State) (bs : List Byte) : (s.reply bs).sessions = s.sessions := rfl

/-! ### setH2d -/

@[simp] theorem setH2d_seq (s : State) (bs : List Byte) : (s.setH2d bs).seq = s.seq := rfl
@[simp] theorem setH2d_link_h2d (s : State) (bs : List Byte) : (s.setH2d bs).link.h2d = bs := rfl
@[simp] theorem setH2d_link_d2h (s : State) (bs : List Byte) : (s.setH2d bs).link.d2h = s.link.d2h := rfl
@[simp] theorem setH2d_link_up (s : State) (bs : List Byte) : (s.setH2d bs).link.up = s.link.up := rfl
@[simp] theorem setH2d_dec (s : State) (bs : List Byte) : (s.setH2d bs).dec = s.dec := rfl
@[simp] theorem setH2d_bus (s : State) (bs : List Byte) : (s.setH2d bs).bus = s.bus := rfl
@[simp] theorem setH2d_turn (s : State) (bs : List Byte) : (s.setH2d bs).turn = s.turn := rfl
@[simp] theorem setH2d_draws (s : State) (bs : List Byte) : (s.setH2d bs).draws = s.draws := rfl
@[simp] theorem setH2d_sessions (s : State) (bs : List Byte) : (s.setH2d bs).sessions = s.sessions := rfl

/-! ### setMode -/

@[simp] theorem setMode_seq (s : State) (m : Mode) : (s.setMode m).seq = s.seq := rfl
@[simp] theorem setMode_link (s : State) (m : Mode) : (s.setMode m).link = s.link := rfl
@[simp] theorem setMode_dec_mode (s : State) (m : Mode) : (s.setMode m).dec.mode = m := rfl
@[simp] theorem setMode_dec_entryRun (s : State) (m : Mode) : (s.setMode m).dec.entryRun = s.dec.entryRun := rfl
@[simp] theorem setMode_dec_parse (s : State) (m : Mode) : (s.setMode m).dec.parse = .idle := rfl
@[simp] theorem setMode_dec_csN (s : State) (m : Mode) : (s.setMode m).dec.csN = s.dec.csN := rfl
@[simp] theorem setMode_dec_cfgEn (s : State) (m : Mode) : (s.setMode m).dec.cfgEn = s.dec.cfgEn := rfl
@[simp] theorem setMode_dec_cfgCpol (s : State) (m : Mode) : (s.setMode m).dec.cfgCpol = s.dec.cfgCpol := rfl
@[simp] theorem setMode_dec_cfgCpha (s : State) (m : Mode) : (s.setMode m).dec.cfgCpha = s.dec.cfgCpha := rfl
@[simp] theorem setMode_dec_cfgDevsel (s : State) (m : Mode) : (s.setMode m).dec.cfgDevsel = s.dec.cfgDevsel := rfl
@[simp] theorem setMode_dec_speedSel (s : State) (m : Mode) : (s.setMode m).dec.speedSel = s.dec.speedSel := rfl
@[simp] theorem setMode_bus (s : State) (m : Mode) : (s.setMode m).bus = s.bus := rfl
@[simp] theorem setMode_turn (s : State) (m : Mode) : (s.setMode m).turn = s.turn := rfl
@[simp] theorem setMode_draws (s : State) (m : Mode) : (s.setMode m).draws = s.draws := rfl
@[simp] theorem setMode_sessions (s : State) (m : Mode) : (s.setMode m).sessions = s.sessions := rfl

/-! ### setParse -/

@[simp] theorem setParse_seq (s : State) (p : Parse) : (s.setParse p).seq = s.seq := rfl
@[simp] theorem setParse_link (s : State) (p : Parse) : (s.setParse p).link = s.link := rfl
@[simp] theorem setParse_dec_mode (s : State) (p : Parse) : (s.setParse p).dec.mode = s.dec.mode := rfl
@[simp] theorem setParse_dec_entryRun (s : State) (p : Parse) : (s.setParse p).dec.entryRun = s.dec.entryRun := rfl
@[simp] theorem setParse_dec_parse (s : State) (p : Parse) : (s.setParse p).dec.parse = p := rfl
@[simp] theorem setParse_dec_csN (s : State) (p : Parse) : (s.setParse p).dec.csN = s.dec.csN := rfl
@[simp] theorem setParse_dec_cfgEn (s : State) (p : Parse) : (s.setParse p).dec.cfgEn = s.dec.cfgEn := rfl
@[simp] theorem setParse_dec_cfgCpol (s : State) (p : Parse) : (s.setParse p).dec.cfgCpol = s.dec.cfgCpol := rfl
@[simp] theorem setParse_dec_cfgCpha (s : State) (p : Parse) : (s.setParse p).dec.cfgCpha = s.dec.cfgCpha := rfl
@[simp] theorem setParse_dec_cfgDevsel (s : State) (p : Parse) : (s.setParse p).dec.cfgDevsel = s.dec.cfgDevsel := rfl
@[simp] theorem setParse_dec_speedSel (s : State) (p : Parse) : (s.setParse p).dec.speedSel = s.dec.speedSel := rfl
@[simp] theorem setParse_bus (s : State) (p : Parse) : (s.setParse p).bus = s.bus := rfl
@[simp] theorem setParse_turn (s : State) (p : Parse) : (s.setParse p).turn = s.turn := rfl
@[simp] theorem setParse_draws (s : State) (p : Parse) : (s.setParse p).draws = s.draws := rfl
@[simp] theorem setParse_sessions (s : State) (p : Parse) : (s.setParse p).sessions = s.sessions := rfl

/-! ### setEntryRun -/

@[simp] theorem setEntryRun_seq (s : State) (n : Nat) : (s.setEntryRun n).seq = s.seq := rfl
@[simp] theorem setEntryRun_link (s : State) (n : Nat) : (s.setEntryRun n).link = s.link := rfl
@[simp] theorem setEntryRun_dec_mode (s : State) (n : Nat) : (s.setEntryRun n).dec.mode = s.dec.mode := rfl
@[simp] theorem setEntryRun_dec_entryRun (s : State) (n : Nat) : (s.setEntryRun n).dec.entryRun = n := rfl
@[simp] theorem setEntryRun_dec_parse (s : State) (n : Nat) : (s.setEntryRun n).dec.parse = s.dec.parse := rfl
@[simp] theorem setEntryRun_dec_csN (s : State) (n : Nat) : (s.setEntryRun n).dec.csN = s.dec.csN := rfl
@[simp] theorem setEntryRun_dec_cfgEn (s : State) (n : Nat) : (s.setEntryRun n).dec.cfgEn = s.dec.cfgEn := rfl
@[simp] theorem setEntryRun_dec_cfgCpol (s : State) (n : Nat) : (s.setEntryRun n).dec.cfgCpol = s.dec.cfgCpol := rfl
@[simp] theorem setEntryRun_dec_cfgCpha (s : State) (n : Nat) : (s.setEntryRun n).dec.cfgCpha = s.dec.cfgCpha := rfl
@[simp] theorem setEntryRun_dec_cfgDevsel (s : State) (n : Nat) : (s.setEntryRun n).dec.cfgDevsel = s.dec.cfgDevsel := rfl
@[simp] theorem setEntryRun_dec_speedSel (s : State) (n : Nat) : (s.setEntryRun n).dec.speedSel = s.dec.speedSel := rfl
@[simp] theorem setEntryRun_bus (s : State) (n : Nat) : (s.setEntryRun n).bus = s.bus := rfl
@[simp] theorem setEntryRun_turn (s : State) (n : Nat) : (s.setEntryRun n).turn = s.turn := rfl
@[simp] theorem setEntryRun_draws (s : State) (n : Nat) : (s.setEntryRun n).draws = s.draws := rfl
@[simp] theorem setEntryRun_sessions (s : State) (n : Nat) : (s.setEntryRun n).sessions = s.sessions := rfl

/-! ### setCsN -/

@[simp] theorem setCsN_seq (s : State) (c : Bit) : (s.setCsN c).seq = s.seq := rfl
@[simp] theorem setCsN_link (s : State) (c : Bit) : (s.setCsN c).link = s.link := rfl
@[simp] theorem setCsN_dec_mode (s : State) (c : Bit) : (s.setCsN c).dec.mode = s.dec.mode := rfl
@[simp] theorem setCsN_dec_entryRun (s : State) (c : Bit) : (s.setCsN c).dec.entryRun = s.dec.entryRun := rfl
@[simp] theorem setCsN_dec_parse (s : State) (c : Bit) : (s.setCsN c).dec.parse = s.dec.parse := rfl
@[simp] theorem setCsN_dec_csN (s : State) (c : Bit) : (s.setCsN c).dec.csN = c := rfl
@[simp] theorem setCsN_dec_cfgEn (s : State) (c : Bit) : (s.setCsN c).dec.cfgEn = s.dec.cfgEn := rfl
@[simp] theorem setCsN_dec_cfgCpol (s : State) (c : Bit) : (s.setCsN c).dec.cfgCpol = s.dec.cfgCpol := rfl
@[simp] theorem setCsN_dec_cfgCpha (s : State) (c : Bit) : (s.setCsN c).dec.cfgCpha = s.dec.cfgCpha := rfl
@[simp] theorem setCsN_dec_cfgDevsel (s : State) (c : Bit) : (s.setCsN c).dec.cfgDevsel = s.dec.cfgDevsel := rfl
@[simp] theorem setCsN_dec_speedSel (s : State) (c : Bit) : (s.setCsN c).dec.speedSel = s.dec.speedSel := rfl
@[simp] theorem setCsN_bus (s : State) (c : Bit) : (s.setCsN c).bus = s.bus := rfl
@[simp] theorem setCsN_turn (s : State) (c : Bit) : (s.setCsN c).turn = s.turn := rfl
@[simp] theorem setCsN_draws (s : State) (c : Bit) : (s.setCsN c).draws = s.draws := rfl
@[simp] theorem setCsN_sessions (s : State) (c : Bit) : (s.setCsN c).sessions = s.sessions := rfl

/-! ### setCfg -/

@[simp] theorem setCfg_seq (s : State) (e p h d : Bit) : (s.setCfg e p h d).seq = s.seq := rfl
@[simp] theorem setCfg_link (s : State) (e p h d : Bit) : (s.setCfg e p h d).link = s.link := rfl
@[simp] theorem setCfg_dec_mode (s : State) (e p h d : Bit) : (s.setCfg e p h d).dec.mode = s.dec.mode := rfl
@[simp] theorem setCfg_dec_entryRun (s : State) (e p h d : Bit) : (s.setCfg e p h d).dec.entryRun = s.dec.entryRun := rfl
@[simp] theorem setCfg_dec_parse (s : State) (e p h d : Bit) : (s.setCfg e p h d).dec.parse = s.dec.parse := rfl
@[simp] theorem setCfg_dec_csN (s : State) (e p h d : Bit) : (s.setCfg e p h d).dec.csN = s.dec.csN := rfl
@[simp] theorem setCfg_dec_cfgEn (s : State) (e p h d : Bit) : (s.setCfg e p h d).dec.cfgEn = some e := rfl
@[simp] theorem setCfg_dec_cfgCpol (s : State) (e p h d : Bit) : (s.setCfg e p h d).dec.cfgCpol = some p := rfl
@[simp] theorem setCfg_dec_cfgCpha (s : State) (e p h d : Bit) : (s.setCfg e p h d).dec.cfgCpha = some h := rfl
@[simp] theorem setCfg_dec_cfgDevsel (s : State) (e p h d : Bit) : (s.setCfg e p h d).dec.cfgDevsel = some d := rfl
@[simp] theorem setCfg_dec_speedSel (s : State) (e p h d : Bit) : (s.setCfg e p h d).dec.speedSel = s.dec.speedSel := rfl
@[simp] theorem setCfg_bus (s : State) (e p h d : Bit) : (s.setCfg e p h d).bus = s.bus := rfl
@[simp] theorem setCfg_turn (s : State) (e p h d : Bit) : (s.setCfg e p h d).turn = s.turn := rfl
@[simp] theorem setCfg_draws (s : State) (e p h d : Bit) : (s.setCfg e p h d).draws = s.draws := rfl
@[simp] theorem setCfg_sessions (s : State) (e p h d : Bit) : (s.setCfg e p h d).sessions = s.sessions := rfl

/-! ### setSpeed -/

@[simp] theorem setSpeed_seq (s : State) (r : Rate) : (s.setSpeed r).seq = s.seq := rfl
@[simp] theorem setSpeed_link (s : State) (r : Rate) : (s.setSpeed r).link = s.link := rfl
@[simp] theorem setSpeed_dec_mode (s : State) (r : Rate) : (s.setSpeed r).dec.mode = s.dec.mode := rfl
@[simp] theorem setSpeed_dec_entryRun (s : State) (r : Rate) : (s.setSpeed r).dec.entryRun = s.dec.entryRun := rfl
@[simp] theorem setSpeed_dec_parse (s : State) (r : Rate) : (s.setSpeed r).dec.parse = s.dec.parse := rfl
@[simp] theorem setSpeed_dec_csN (s : State) (r : Rate) : (s.setSpeed r).dec.csN = s.dec.csN := rfl
@[simp] theorem setSpeed_dec_cfgEn (s : State) (r : Rate) : (s.setSpeed r).dec.cfgEn = s.dec.cfgEn := rfl
@[simp] theorem setSpeed_dec_cfgCpol (s : State) (r : Rate) : (s.setSpeed r).dec.cfgCpol = s.dec.cfgCpol := rfl
@[simp] theorem setSpeed_dec_cfgCpha (s : State) (r : Rate) : (s.setSpeed r).dec.cfgCpha = s.dec.cfgCpha := rfl
@[simp] theorem setSpeed_dec_cfgDevsel (s : State) (r : Rate) : (s.setSpeed r).dec.cfgDevsel = s.dec.cfgDevsel := rfl
@[simp] theorem setSpeed_dec_speedSel (s : State) (r : Rate) : (s.setSpeed r).dec.speedSel = some r := rfl
@[simp] theorem setSpeed_bus (s : State) (r : Rate) : (s.setSpeed r).bus = s.bus := rfl
@[simp] theorem setSpeed_turn (s : State) (r : Rate) : (s.setSpeed r).turn = s.turn := rfl
@[simp] theorem setSpeed_draws (s : State) (r : Rate) : (s.setSpeed r).draws = s.draws := rfl
@[simp] theorem setSpeed_sessions (s : State) (r : Rate) : (s.setSpeed r).sessions = s.sessions := rfl

/-! ### setSpi -/

@[simp] theorem setSpi_seq (s : State) (d : SpiDraw) : (s.setSpi d).seq = s.seq := rfl
@[simp] theorem setSpi_link (s : State) (d : SpiDraw) : (s.setSpi d).link = s.link := rfl
@[simp] theorem setSpi_dec_mode (s : State) (d : SpiDraw) : (s.setSpi d).dec.mode = s.dec.mode := rfl
@[simp] theorem setSpi_dec_entryRun (s : State) (d : SpiDraw) : (s.setSpi d).dec.entryRun = s.dec.entryRun := rfl
@[simp] theorem setSpi_dec_parse (s : State) (d : SpiDraw) : (s.setSpi d).dec.parse = s.dec.parse := rfl
@[simp] theorem setSpi_dec_csN (s : State) (d : SpiDraw) : (s.setSpi d).dec.csN = d.csN := rfl
@[simp] theorem setSpi_dec_cfgEn (s : State) (d : SpiDraw) : (s.setSpi d).dec.cfgEn = some d.cfgEn := rfl
@[simp] theorem setSpi_dec_cfgCpol (s : State) (d : SpiDraw) : (s.setSpi d).dec.cfgCpol = some d.cfgCpol := rfl
@[simp] theorem setSpi_dec_cfgCpha (s : State) (d : SpiDraw) : (s.setSpi d).dec.cfgCpha = some d.cfgCpha := rfl
@[simp] theorem setSpi_dec_cfgDevsel (s : State) (d : SpiDraw) : (s.setSpi d).dec.cfgDevsel = some d.cfgDevsel := rfl
@[simp] theorem setSpi_dec_speedSel (s : State) (d : SpiDraw) : (s.setSpi d).dec.speedSel = some d.speedSel := rfl
@[simp] theorem setSpi_bus (s : State) (d : SpiDraw) : (s.setSpi d).bus = s.bus := rfl
@[simp] theorem setSpi_turn (s : State) (d : SpiDraw) : (s.setSpi d).turn = s.turn := rfl
@[simp] theorem setSpi_draws (s : State) (d : SpiDraw) : (s.setSpi d).draws = s.draws := rfl
@[simp] theorem setSpi_sessions (s : State) (d : SpiDraw) : (s.setSpi d).sessions = s.sessions := rfl

/-! ### logExchanges -/

@[simp] theorem logExchanges_seq (s : State) (rs : List Exchange) : (s.logExchanges rs).seq = s.seq := rfl
@[simp] theorem logExchanges_link (s : State) (rs : List Exchange) : (s.logExchanges rs).link = s.link := rfl
@[simp] theorem logExchanges_dec (s : State) (rs : List Exchange) : (s.logExchanges rs).dec = s.dec := rfl
@[simp] theorem logExchanges_bus_log (s : State) (rs : List Exchange) : (s.logExchanges rs).bus.log = s.bus.log ++ rs := rfl
@[simp] theorem logExchanges_turn (s : State) (rs : List Exchange) : (s.logExchanges rs).turn = s.turn := rfl
@[simp] theorem logExchanges_draws (s : State) (rs : List Exchange) : (s.logExchanges rs).draws = s.draws := rfl
@[simp] theorem logExchanges_sessions (s : State) (rs : List Exchange) : (s.logExchanges rs).sessions = s.sessions := rfl

/-! ### emit -/

@[simp] theorem emit_seq_pc (s : State) (e : Event) : (s.emit e).seq.pc = s.seq.pc := rfl
@[simp] theorem emit_seq_point (s : State) (e : Event) : (s.emit e).seq.point = s.seq.point := rfl
@[simp] theorem emit_seq_attempt (s : State) (e : Event) : (s.emit e).seq.attempt = s.seq.attempt := rfl
@[simp] theorem emit_seq_sigIdx (s : State) (e : Event) : (s.emit e).seq.sigIdx = s.seq.sigIdx := rfl
@[simp] theorem emit_seq_addr (s : State) (e : Event) : (s.emit e).seq.addr = s.seq.addr := rfl
@[simp] theorem emit_seq_peReply (s : State) (e : Event) : (s.emit e).seq.peReply = s.seq.peReply := rfl
@[simp] theorem emit_seq_sigGot (s : State) (e : Event) : (s.emit e).seq.sigGot = s.seq.sigGot := rfl
@[simp] theorem emit_seq_image (s : State) (e : Event) : (s.emit e).seq.image = s.seq.image := rfl
@[simp] theorem emit_seq_err (s : State) (e : Event) : (s.emit e).seq.err = s.seq.err := rfl
@[simp] theorem emit_seq_exitCount (s : State) (e : Event) : (s.emit e).seq.exitCount = s.seq.exitCount := rfl
@[simp] theorem emit_seq_linkOpen (s : State) (e : Event) : (s.emit e).seq.linkOpen = s.seq.linkOpen := rfl
@[simp] theorem emit_seq_output (s : State) (e : Event) : (s.emit e).seq.output = s.seq.output := rfl
@[simp] theorem emit_seq_trace (s : State) (e : Event) : (s.emit e).seq.trace = s.seq.trace ++ [e] := rfl
@[simp] theorem emit_seq_cfg (s : State) (e : Event) : (s.emit e).seq.cfg = s.seq.cfg := rfl
@[simp] theorem emit_link (s : State) (e : Event) : (s.emit e).link = s.link := rfl
@[simp] theorem emit_dec (s : State) (e : Event) : (s.emit e).dec = s.dec := rfl
@[simp] theorem emit_bus (s : State) (e : Event) : (s.emit e).bus = s.bus := rfl
@[simp] theorem emit_turn (s : State) (e : Event) : (s.emit e).turn = s.turn := rfl
@[simp] theorem emit_draws (s : State) (e : Event) : (s.emit e).draws = s.draws := rfl
@[simp] theorem emit_sessions (s : State) (e : Event) : (s.emit e).sessions = s.sessions := rfl

/-! ### goto -/

@[simp] theorem goto_seq_pc (s : State) (p : Phase) : (s.goto p).seq.pc = p := rfl
@[simp] theorem goto_seq_point (s : State) (p : Phase) : (s.goto p).seq.point = .start := rfl
@[simp] theorem goto_seq_attempt (s : State) (p : Phase) : (s.goto p).seq.attempt = s.seq.attempt := rfl
@[simp] theorem goto_seq_sigIdx (s : State) (p : Phase) : (s.goto p).seq.sigIdx = s.seq.sigIdx := rfl
@[simp] theorem goto_seq_addr (s : State) (p : Phase) : (s.goto p).seq.addr = s.seq.addr := rfl
@[simp] theorem goto_seq_peReply (s : State) (p : Phase) : (s.goto p).seq.peReply = s.seq.peReply := rfl
@[simp] theorem goto_seq_sigGot (s : State) (p : Phase) : (s.goto p).seq.sigGot = s.seq.sigGot := rfl
@[simp] theorem goto_seq_image (s : State) (p : Phase) : (s.goto p).seq.image = s.seq.image := rfl
@[simp] theorem goto_seq_err (s : State) (p : Phase) : (s.goto p).seq.err = s.seq.err := rfl
@[simp] theorem goto_seq_exitCount (s : State) (p : Phase) : (s.goto p).seq.exitCount = s.seq.exitCount := rfl
@[simp] theorem goto_seq_linkOpen (s : State) (p : Phase) : (s.goto p).seq.linkOpen = s.seq.linkOpen := rfl
@[simp] theorem goto_seq_output (s : State) (p : Phase) : (s.goto p).seq.output = s.seq.output := rfl
@[simp] theorem goto_seq_trace (s : State) (p : Phase) : (s.goto p).seq.trace = s.seq.trace := rfl
@[simp] theorem goto_seq_cfg (s : State) (p : Phase) : (s.goto p).seq.cfg = s.seq.cfg := rfl
@[simp] theorem goto_link (s : State) (p : Phase) : (s.goto p).link = s.link := rfl
@[simp] theorem goto_dec (s : State) (p : Phase) : (s.goto p).dec = s.dec := rfl
@[simp] theorem goto_bus (s : State) (p : Phase) : (s.goto p).bus = s.bus := rfl
@[simp] theorem goto_turn (s : State) (p : Phase) : (s.goto p).turn = s.turn := rfl
@[simp] theorem goto_draws (s : State) (p : Phase) : (s.goto p).draws = s.draws := rfl
@[simp] theorem goto_sessions (s : State) (p : Phase) : (s.goto p).sessions = s.sessions := rfl

/-! ### setPoint -/

@[simp] theorem setPoint_seq_pc (s : State) (p : Point) : (s.setPoint p).seq.pc = s.seq.pc := rfl
@[simp] theorem setPoint_seq_point (s : State) (p : Point) : (s.setPoint p).seq.point = p := rfl
@[simp] theorem setPoint_seq_attempt (s : State) (p : Point) : (s.setPoint p).seq.attempt = s.seq.attempt := rfl
@[simp] theorem setPoint_seq_sigIdx (s : State) (p : Point) : (s.setPoint p).seq.sigIdx = s.seq.sigIdx := rfl
@[simp] theorem setPoint_seq_addr (s : State) (p : Point) : (s.setPoint p).seq.addr = s.seq.addr := rfl
@[simp] theorem setPoint_seq_peReply (s : State) (p : Point) : (s.setPoint p).seq.peReply = s.seq.peReply := rfl
@[simp] theorem setPoint_seq_sigGot (s : State) (p : Point) : (s.setPoint p).seq.sigGot = s.seq.sigGot := rfl
@[simp] theorem setPoint_seq_image (s : State) (p : Point) : (s.setPoint p).seq.image = s.seq.image := rfl
@[simp] theorem setPoint_seq_err (s : State) (p : Point) : (s.setPoint p).seq.err = s.seq.err := rfl
@[simp] theorem setPoint_seq_exitCount (s : State) (p : Point) : (s.setPoint p).seq.exitCount = s.seq.exitCount := rfl
@[simp] theorem setPoint_seq_linkOpen (s : State) (p : Point) : (s.setPoint p).seq.linkOpen = s.seq.linkOpen := rfl
@[simp] theorem setPoint_seq_output (s : State) (p : Point) : (s.setPoint p).seq.output = s.seq.output := rfl
@[simp] theorem setPoint_seq_trace (s : State) (p : Point) : (s.setPoint p).seq.trace = s.seq.trace := rfl
@[simp] theorem setPoint_seq_cfg (s : State) (p : Point) : (s.setPoint p).seq.cfg = s.seq.cfg := rfl
@[simp] theorem setPoint_link (s : State) (p : Point) : (s.setPoint p).link = s.link := rfl
@[simp] theorem setPoint_dec (s : State) (p : Point) : (s.setPoint p).dec = s.dec := rfl
@[simp] theorem setPoint_bus (s : State) (p : Point) : (s.setPoint p).bus = s.bus := rfl
@[simp] theorem setPoint_turn (s : State) (p : Point) : (s.setPoint p).turn = s.turn := rfl
@[simp] theorem setPoint_draws (s : State) (p : Point) : (s.setPoint p).draws = s.draws := rfl
@[simp] theorem setPoint_sessions (s : State) (p : Point) : (s.setPoint p).sessions = s.sessions := rfl

/-! ### setAttempt -/

@[simp] theorem setAttempt_seq_pc (s : State) (n : Nat) : (s.setAttempt n).seq.pc = s.seq.pc := rfl
@[simp] theorem setAttempt_seq_point (s : State) (n : Nat) : (s.setAttempt n).seq.point = s.seq.point := rfl
@[simp] theorem setAttempt_seq_attempt (s : State) (n : Nat) : (s.setAttempt n).seq.attempt = n := rfl
@[simp] theorem setAttempt_seq_sigIdx (s : State) (n : Nat) : (s.setAttempt n).seq.sigIdx = s.seq.sigIdx := rfl
@[simp] theorem setAttempt_seq_addr (s : State) (n : Nat) : (s.setAttempt n).seq.addr = s.seq.addr := rfl
@[simp] theorem setAttempt_seq_peReply (s : State) (n : Nat) : (s.setAttempt n).seq.peReply = s.seq.peReply := rfl
@[simp] theorem setAttempt_seq_sigGot (s : State) (n : Nat) : (s.setAttempt n).seq.sigGot = s.seq.sigGot := rfl
@[simp] theorem setAttempt_seq_image (s : State) (n : Nat) : (s.setAttempt n).seq.image = s.seq.image := rfl
@[simp] theorem setAttempt_seq_err (s : State) (n : Nat) : (s.setAttempt n).seq.err = s.seq.err := rfl
@[simp] theorem setAttempt_seq_exitCount (s : State) (n : Nat) : (s.setAttempt n).seq.exitCount = s.seq.exitCount := rfl
@[simp] theorem setAttempt_seq_linkOpen (s : State) (n : Nat) : (s.setAttempt n).seq.linkOpen = s.seq.linkOpen := rfl
@[simp] theorem setAttempt_seq_output (s : State) (n : Nat) : (s.setAttempt n).seq.output = s.seq.output := rfl
@[simp] theorem setAttempt_seq_trace (s : State) (n : Nat) : (s.setAttempt n).seq.trace = s.seq.trace := rfl
@[simp] theorem setAttempt_seq_cfg (s : State) (n : Nat) : (s.setAttempt n).seq.cfg = s.seq.cfg := rfl
@[simp] theorem setAttempt_link (s : State) (n : Nat) : (s.setAttempt n).link = s.link := rfl
@[simp] theorem setAttempt_dec (s : State) (n : Nat) : (s.setAttempt n).dec = s.dec := rfl
@[simp] theorem setAttempt_bus (s : State) (n : Nat) : (s.setAttempt n).bus = s.bus := rfl
@[simp] theorem setAttempt_turn (s : State) (n : Nat) : (s.setAttempt n).turn = s.turn := rfl
@[simp] theorem setAttempt_draws (s : State) (n : Nat) : (s.setAttempt n).draws = s.draws := rfl
@[simp] theorem setAttempt_sessions (s : State) (n : Nat) : (s.setAttempt n).sessions = s.sessions := rfl

/-! ### setSigIdx -/

@[simp] theorem setSigIdx_seq_pc (s : State) (i : Fin 4) : (s.setSigIdx i).seq.pc = s.seq.pc := rfl
@[simp] theorem setSigIdx_seq_point (s : State) (i : Fin 4) : (s.setSigIdx i).seq.point = s.seq.point := rfl
@[simp] theorem setSigIdx_seq_attempt (s : State) (i : Fin 4) : (s.setSigIdx i).seq.attempt = s.seq.attempt := rfl
@[simp] theorem setSigIdx_seq_sigIdx (s : State) (i : Fin 4) : (s.setSigIdx i).seq.sigIdx = i := rfl
@[simp] theorem setSigIdx_seq_addr (s : State) (i : Fin 4) : (s.setSigIdx i).seq.addr = s.seq.addr := rfl
@[simp] theorem setSigIdx_seq_peReply (s : State) (i : Fin 4) : (s.setSigIdx i).seq.peReply = s.seq.peReply := rfl
@[simp] theorem setSigIdx_seq_sigGot (s : State) (i : Fin 4) : (s.setSigIdx i).seq.sigGot = s.seq.sigGot := rfl
@[simp] theorem setSigIdx_seq_image (s : State) (i : Fin 4) : (s.setSigIdx i).seq.image = s.seq.image := rfl
@[simp] theorem setSigIdx_seq_err (s : State) (i : Fin 4) : (s.setSigIdx i).seq.err = s.seq.err := rfl
@[simp] theorem setSigIdx_seq_exitCount (s : State) (i : Fin 4) : (s.setSigIdx i).seq.exitCount = s.seq.exitCount := rfl
@[simp] theorem setSigIdx_seq_linkOpen (s : State) (i : Fin 4) : (s.setSigIdx i).seq.linkOpen = s.seq.linkOpen := rfl
@[simp] theorem setSigIdx_seq_output (s : State) (i : Fin 4) : (s.setSigIdx i).seq.output = s.seq.output := rfl
@[simp] theorem setSigIdx_seq_trace (s : State) (i : Fin 4) : (s.setSigIdx i).seq.trace = s.seq.trace := rfl
@[simp] theorem setSigIdx_seq_cfg (s : State) (i : Fin 4) : (s.setSigIdx i).seq.cfg = s.seq.cfg := rfl
@[simp] theorem setSigIdx_link (s : State) (i : Fin 4) : (s.setSigIdx i).link = s.link := rfl
@[simp] theorem setSigIdx_dec (s : State) (i : Fin 4) : (s.setSigIdx i).dec = s.dec := rfl
@[simp] theorem setSigIdx_bus (s : State) (i : Fin 4) : (s.setSigIdx i).bus = s.bus := rfl
@[simp] theorem setSigIdx_turn (s : State) (i : Fin 4) : (s.setSigIdx i).turn = s.turn := rfl
@[simp] theorem setSigIdx_draws (s : State) (i : Fin 4) : (s.setSigIdx i).draws = s.draws := rfl
@[simp] theorem setSigIdx_sessions (s : State) (i : Fin 4) : (s.setSigIdx i).sessions = s.sessions := rfl

/-! ### setAddr -/

@[simp] theorem setAddr_seq_pc (s : State) (a : SeqAddr) : (s.setAddr a).seq.pc = s.seq.pc := rfl
@[simp] theorem setAddr_seq_point (s : State) (a : SeqAddr) : (s.setAddr a).seq.point = s.seq.point := rfl
@[simp] theorem setAddr_seq_attempt (s : State) (a : SeqAddr) : (s.setAddr a).seq.attempt = s.seq.attempt := rfl
@[simp] theorem setAddr_seq_sigIdx (s : State) (a : SeqAddr) : (s.setAddr a).seq.sigIdx = s.seq.sigIdx := rfl
@[simp] theorem setAddr_seq_addr (s : State) (a : SeqAddr) : (s.setAddr a).seq.addr = a := rfl
@[simp] theorem setAddr_seq_peReply (s : State) (a : SeqAddr) : (s.setAddr a).seq.peReply = s.seq.peReply := rfl
@[simp] theorem setAddr_seq_sigGot (s : State) (a : SeqAddr) : (s.setAddr a).seq.sigGot = s.seq.sigGot := rfl
@[simp] theorem setAddr_seq_image (s : State) (a : SeqAddr) : (s.setAddr a).seq.image = s.seq.image := rfl
@[simp] theorem setAddr_seq_err (s : State) (a : SeqAddr) : (s.setAddr a).seq.err = s.seq.err := rfl
@[simp] theorem setAddr_seq_exitCount (s : State) (a : SeqAddr) : (s.setAddr a).seq.exitCount = s.seq.exitCount := rfl
@[simp] theorem setAddr_seq_linkOpen (s : State) (a : SeqAddr) : (s.setAddr a).seq.linkOpen = s.seq.linkOpen := rfl
@[simp] theorem setAddr_seq_output (s : State) (a : SeqAddr) : (s.setAddr a).seq.output = s.seq.output := rfl
@[simp] theorem setAddr_seq_trace (s : State) (a : SeqAddr) : (s.setAddr a).seq.trace = s.seq.trace := rfl
@[simp] theorem setAddr_seq_cfg (s : State) (a : SeqAddr) : (s.setAddr a).seq.cfg = s.seq.cfg := rfl
@[simp] theorem setAddr_link (s : State) (a : SeqAddr) : (s.setAddr a).link = s.link := rfl
@[simp] theorem setAddr_dec (s : State) (a : SeqAddr) : (s.setAddr a).dec = s.dec := rfl
@[simp] theorem setAddr_bus (s : State) (a : SeqAddr) : (s.setAddr a).bus = s.bus := rfl
@[simp] theorem setAddr_turn (s : State) (a : SeqAddr) : (s.setAddr a).turn = s.turn := rfl
@[simp] theorem setAddr_draws (s : State) (a : SeqAddr) : (s.setAddr a).draws = s.draws := rfl
@[simp] theorem setAddr_sessions (s : State) (a : SeqAddr) : (s.setAddr a).sessions = s.sessions := rfl

/-! ### setPeReply -/

@[simp] theorem setPeReply_seq_pc (s : State) (r : List Byte) : (s.setPeReply r).seq.pc = s.seq.pc := rfl
@[simp] theorem setPeReply_seq_point (s : State) (r : List Byte) : (s.setPeReply r).seq.point = s.seq.point := rfl
@[simp] theorem setPeReply_seq_attempt (s : State) (r : List Byte) : (s.setPeReply r).seq.attempt = s.seq.attempt := rfl
@[simp] theorem setPeReply_seq_sigIdx (s : State) (r : List Byte) : (s.setPeReply r).seq.sigIdx = s.seq.sigIdx := rfl
@[simp] theorem setPeReply_seq_addr (s : State) (r : List Byte) : (s.setPeReply r).seq.addr = s.seq.addr := rfl
@[simp] theorem setPeReply_seq_peReply (s : State) (r : List Byte) : (s.setPeReply r).seq.peReply = some r := rfl
@[simp] theorem setPeReply_seq_sigGot (s : State) (r : List Byte) : (s.setPeReply r).seq.sigGot = s.seq.sigGot := rfl
@[simp] theorem setPeReply_seq_image (s : State) (r : List Byte) : (s.setPeReply r).seq.image = s.seq.image := rfl
@[simp] theorem setPeReply_seq_err (s : State) (r : List Byte) : (s.setPeReply r).seq.err = s.seq.err := rfl
@[simp] theorem setPeReply_seq_exitCount (s : State) (r : List Byte) : (s.setPeReply r).seq.exitCount = s.seq.exitCount := rfl
@[simp] theorem setPeReply_seq_linkOpen (s : State) (r : List Byte) : (s.setPeReply r).seq.linkOpen = s.seq.linkOpen := rfl
@[simp] theorem setPeReply_seq_output (s : State) (r : List Byte) : (s.setPeReply r).seq.output = s.seq.output := rfl
@[simp] theorem setPeReply_seq_trace (s : State) (r : List Byte) : (s.setPeReply r).seq.trace = s.seq.trace := rfl
@[simp] theorem setPeReply_seq_cfg (s : State) (r : List Byte) : (s.setPeReply r).seq.cfg = s.seq.cfg := rfl
@[simp] theorem setPeReply_link (s : State) (r : List Byte) : (s.setPeReply r).link = s.link := rfl
@[simp] theorem setPeReply_dec (s : State) (r : List Byte) : (s.setPeReply r).dec = s.dec := rfl
@[simp] theorem setPeReply_bus (s : State) (r : List Byte) : (s.setPeReply r).bus = s.bus := rfl
@[simp] theorem setPeReply_turn (s : State) (r : List Byte) : (s.setPeReply r).turn = s.turn := rfl
@[simp] theorem setPeReply_draws (s : State) (r : List Byte) : (s.setPeReply r).draws = s.draws := rfl
@[simp] theorem setPeReply_sessions (s : State) (r : List Byte) : (s.setPeReply r).sessions = s.sessions := rfl

/-! ### setSigGot -/

@[simp] theorem setSigGot_seq_pc (s : State) (i : Fin 3) (b : Byte) : (s.setSigGot i b).seq.pc = s.seq.pc := rfl
@[simp] theorem setSigGot_seq_point (s : State) (i : Fin 3) (b : Byte) : (s.setSigGot i b).seq.point = s.seq.point := rfl
@[simp] theorem setSigGot_seq_attempt (s : State) (i : Fin 3) (b : Byte) : (s.setSigGot i b).seq.attempt = s.seq.attempt := rfl
@[simp] theorem setSigGot_seq_sigIdx (s : State) (i : Fin 3) (b : Byte) : (s.setSigGot i b).seq.sigIdx = s.seq.sigIdx := rfl
@[simp] theorem setSigGot_seq_addr (s : State) (i : Fin 3) (b : Byte) : (s.setSigGot i b).seq.addr = s.seq.addr := rfl
@[simp] theorem setSigGot_seq_peReply (s : State) (i : Fin 3) (b : Byte) : (s.setSigGot i b).seq.peReply = s.seq.peReply := rfl
@[simp] theorem setSigGot_seq_sigGot (s : State) (i : Fin 3) (b : Byte) : (s.setSigGot i b).seq.sigGot = s.seq.sigGot.set i (some b) := rfl
@[simp] theorem setSigGot_seq_image (s : State) (i : Fin 3) (b : Byte) : (s.setSigGot i b).seq.image = s.seq.image := rfl
@[simp] theorem setSigGot_seq_err (s : State) (i : Fin 3) (b : Byte) : (s.setSigGot i b).seq.err = s.seq.err := rfl
@[simp] theorem setSigGot_seq_exitCount (s : State) (i : Fin 3) (b : Byte) : (s.setSigGot i b).seq.exitCount = s.seq.exitCount := rfl
@[simp] theorem setSigGot_seq_linkOpen (s : State) (i : Fin 3) (b : Byte) : (s.setSigGot i b).seq.linkOpen = s.seq.linkOpen := rfl
@[simp] theorem setSigGot_seq_output (s : State) (i : Fin 3) (b : Byte) : (s.setSigGot i b).seq.output = s.seq.output := rfl
@[simp] theorem setSigGot_seq_trace (s : State) (i : Fin 3) (b : Byte) : (s.setSigGot i b).seq.trace = s.seq.trace := rfl
@[simp] theorem setSigGot_seq_cfg (s : State) (i : Fin 3) (b : Byte) : (s.setSigGot i b).seq.cfg = s.seq.cfg := rfl
@[simp] theorem setSigGot_link (s : State) (i : Fin 3) (b : Byte) : (s.setSigGot i b).link = s.link := rfl
@[simp] theorem setSigGot_dec (s : State) (i : Fin 3) (b : Byte) : (s.setSigGot i b).dec = s.dec := rfl
@[simp] theorem setSigGot_bus (s : State) (i : Fin 3) (b : Byte) : (s.setSigGot i b).bus = s.bus := rfl
@[simp] theorem setSigGot_turn (s : State) (i : Fin 3) (b : Byte) : (s.setSigGot i b).turn = s.turn := rfl
@[simp] theorem setSigGot_draws (s : State) (i : Fin 3) (b : Byte) : (s.setSigGot i b).draws = s.draws := rfl
@[simp] theorem setSigGot_sessions (s : State) (i : Fin 3) (b : Byte) : (s.setSigGot i b).sessions = s.sessions := rfl

/-! ### setExitCount -/

@[simp] theorem setExitCount_seq_pc (s : State) (n : Nat) : (s.setExitCount n).seq.pc = s.seq.pc := rfl
@[simp] theorem setExitCount_seq_point (s : State) (n : Nat) : (s.setExitCount n).seq.point = s.seq.point := rfl
@[simp] theorem setExitCount_seq_attempt (s : State) (n : Nat) : (s.setExitCount n).seq.attempt = s.seq.attempt := rfl
@[simp] theorem setExitCount_seq_sigIdx (s : State) (n : Nat) : (s.setExitCount n).seq.sigIdx = s.seq.sigIdx := rfl
@[simp] theorem setExitCount_seq_addr (s : State) (n : Nat) : (s.setExitCount n).seq.addr = s.seq.addr := rfl
@[simp] theorem setExitCount_seq_peReply (s : State) (n : Nat) : (s.setExitCount n).seq.peReply = s.seq.peReply := rfl
@[simp] theorem setExitCount_seq_sigGot (s : State) (n : Nat) : (s.setExitCount n).seq.sigGot = s.seq.sigGot := rfl
@[simp] theorem setExitCount_seq_image (s : State) (n : Nat) : (s.setExitCount n).seq.image = s.seq.image := rfl
@[simp] theorem setExitCount_seq_err (s : State) (n : Nat) : (s.setExitCount n).seq.err = s.seq.err := rfl
@[simp] theorem setExitCount_seq_exitCount (s : State) (n : Nat) : (s.setExitCount n).seq.exitCount = n := rfl
@[simp] theorem setExitCount_seq_linkOpen (s : State) (n : Nat) : (s.setExitCount n).seq.linkOpen = s.seq.linkOpen := rfl
@[simp] theorem setExitCount_seq_output (s : State) (n : Nat) : (s.setExitCount n).seq.output = s.seq.output := rfl
@[simp] theorem setExitCount_seq_trace (s : State) (n : Nat) : (s.setExitCount n).seq.trace = s.seq.trace := rfl
@[simp] theorem setExitCount_seq_cfg (s : State) (n : Nat) : (s.setExitCount n).seq.cfg = s.seq.cfg := rfl
@[simp] theorem setExitCount_link (s : State) (n : Nat) : (s.setExitCount n).link = s.link := rfl
@[simp] theorem setExitCount_dec (s : State) (n : Nat) : (s.setExitCount n).dec = s.dec := rfl
@[simp] theorem setExitCount_bus (s : State) (n : Nat) : (s.setExitCount n).bus = s.bus := rfl
@[simp] theorem setExitCount_turn (s : State) (n : Nat) : (s.setExitCount n).turn = s.turn := rfl
@[simp] theorem setExitCount_draws (s : State) (n : Nat) : (s.setExitCount n).draws = s.draws := rfl
@[simp] theorem setExitCount_sessions (s : State) (n : Nat) : (s.setExitCount n).sessions = s.sessions := rfl

/-! ### setLinkOpen -/

@[simp] theorem setLinkOpen_seq_pc (s : State) (b : Bool) : (s.setLinkOpen b).seq.pc = s.seq.pc := rfl
@[simp] theorem setLinkOpen_seq_point (s : State) (b : Bool) : (s.setLinkOpen b).seq.point = s.seq.point := rfl
@[simp] theorem setLinkOpen_seq_attempt (s : State) (b : Bool) : (s.setLinkOpen b).seq.attempt = s.seq.attempt := rfl
@[simp] theorem setLinkOpen_seq_sigIdx (s : State) (b : Bool) : (s.setLinkOpen b).seq.sigIdx = s.seq.sigIdx := rfl
@[simp] theorem setLinkOpen_seq_addr (s : State) (b : Bool) : (s.setLinkOpen b).seq.addr = s.seq.addr := rfl
@[simp] theorem setLinkOpen_seq_peReply (s : State) (b : Bool) : (s.setLinkOpen b).seq.peReply = s.seq.peReply := rfl
@[simp] theorem setLinkOpen_seq_sigGot (s : State) (b : Bool) : (s.setLinkOpen b).seq.sigGot = s.seq.sigGot := rfl
@[simp] theorem setLinkOpen_seq_image (s : State) (b : Bool) : (s.setLinkOpen b).seq.image = s.seq.image := rfl
@[simp] theorem setLinkOpen_seq_err (s : State) (b : Bool) : (s.setLinkOpen b).seq.err = s.seq.err := rfl
@[simp] theorem setLinkOpen_seq_exitCount (s : State) (b : Bool) : (s.setLinkOpen b).seq.exitCount = s.seq.exitCount := rfl
@[simp] theorem setLinkOpen_seq_linkOpen (s : State) (b : Bool) : (s.setLinkOpen b).seq.linkOpen = b := rfl
@[simp] theorem setLinkOpen_seq_output (s : State) (b : Bool) : (s.setLinkOpen b).seq.output = s.seq.output := rfl
@[simp] theorem setLinkOpen_seq_trace (s : State) (b : Bool) : (s.setLinkOpen b).seq.trace = s.seq.trace := rfl
@[simp] theorem setLinkOpen_seq_cfg (s : State) (b : Bool) : (s.setLinkOpen b).seq.cfg = s.seq.cfg := rfl
@[simp] theorem setLinkOpen_link (s : State) (b : Bool) : (s.setLinkOpen b).link = s.link := rfl
@[simp] theorem setLinkOpen_dec (s : State) (b : Bool) : (s.setLinkOpen b).dec = s.dec := rfl
@[simp] theorem setLinkOpen_bus (s : State) (b : Bool) : (s.setLinkOpen b).bus = s.bus := rfl
@[simp] theorem setLinkOpen_turn (s : State) (b : Bool) : (s.setLinkOpen b).turn = s.turn := rfl
@[simp] theorem setLinkOpen_draws (s : State) (b : Bool) : (s.setLinkOpen b).draws = s.draws := rfl
@[simp] theorem setLinkOpen_sessions (s : State) (b : Bool) : (s.setLinkOpen b).sessions = s.sessions := rfl

/-! ### setOutput -/

@[simp] theorem setOutput_seq_pc (s : State) (bs : List Byte) : (s.setOutput bs).seq.pc = s.seq.pc := rfl
@[simp] theorem setOutput_seq_point (s : State) (bs : List Byte) : (s.setOutput bs).seq.point = s.seq.point := rfl
@[simp] theorem setOutput_seq_attempt (s : State) (bs : List Byte) : (s.setOutput bs).seq.attempt = s.seq.attempt := rfl
@[simp] theorem setOutput_seq_sigIdx (s : State) (bs : List Byte) : (s.setOutput bs).seq.sigIdx = s.seq.sigIdx := rfl
@[simp] theorem setOutput_seq_addr (s : State) (bs : List Byte) : (s.setOutput bs).seq.addr = s.seq.addr := rfl
@[simp] theorem setOutput_seq_peReply (s : State) (bs : List Byte) : (s.setOutput bs).seq.peReply = s.seq.peReply := rfl
@[simp] theorem setOutput_seq_sigGot (s : State) (bs : List Byte) : (s.setOutput bs).seq.sigGot = s.seq.sigGot := rfl
@[simp] theorem setOutput_seq_image (s : State) (bs : List Byte) : (s.setOutput bs).seq.image = s.seq.image := rfl
@[simp] theorem setOutput_seq_err (s : State) (bs : List Byte) : (s.setOutput bs).seq.err = s.seq.err := rfl
@[simp] theorem setOutput_seq_exitCount (s : State) (bs : List Byte) : (s.setOutput bs).seq.exitCount = s.seq.exitCount := rfl
@[simp] theorem setOutput_seq_linkOpen (s : State) (bs : List Byte) : (s.setOutput bs).seq.linkOpen = s.seq.linkOpen := rfl
@[simp] theorem setOutput_seq_output (s : State) (bs : List Byte) : (s.setOutput bs).seq.output = some bs := rfl
@[simp] theorem setOutput_seq_trace (s : State) (bs : List Byte) : (s.setOutput bs).seq.trace = s.seq.trace := rfl
@[simp] theorem setOutput_seq_cfg (s : State) (bs : List Byte) : (s.setOutput bs).seq.cfg = s.seq.cfg := rfl
@[simp] theorem setOutput_link (s : State) (bs : List Byte) : (s.setOutput bs).link = s.link := rfl
@[simp] theorem setOutput_dec (s : State) (bs : List Byte) : (s.setOutput bs).dec = s.dec := rfl
@[simp] theorem setOutput_bus (s : State) (bs : List Byte) : (s.setOutput bs).bus = s.bus := rfl
@[simp] theorem setOutput_turn (s : State) (bs : List Byte) : (s.setOutput bs).turn = s.turn := rfl
@[simp] theorem setOutput_draws (s : State) (bs : List Byte) : (s.setOutput bs).draws = s.draws := rfl
@[simp] theorem setOutput_sessions (s : State) (bs : List Byte) : (s.setOutput bs).sessions = s.sessions := rfl

/-! ### recordErr -/

@[simp] theorem recordErr_seq_pc (s : State) (e : Err) : (s.recordErr e).seq.pc = s.seq.pc := rfl
@[simp] theorem recordErr_seq_point (s : State) (e : Err) : (s.recordErr e).seq.point = s.seq.point := rfl
@[simp] theorem recordErr_seq_attempt (s : State) (e : Err) : (s.recordErr e).seq.attempt = s.seq.attempt := rfl
@[simp] theorem recordErr_seq_sigIdx (s : State) (e : Err) : (s.recordErr e).seq.sigIdx = s.seq.sigIdx := rfl
@[simp] theorem recordErr_seq_addr (s : State) (e : Err) : (s.recordErr e).seq.addr = s.seq.addr := rfl
@[simp] theorem recordErr_seq_peReply (s : State) (e : Err) : (s.recordErr e).seq.peReply = s.seq.peReply := rfl
@[simp] theorem recordErr_seq_sigGot (s : State) (e : Err) : (s.recordErr e).seq.sigGot = s.seq.sigGot := rfl
@[simp] theorem recordErr_seq_image (s : State) (e : Err) : (s.recordErr e).seq.image = s.seq.image := rfl
@[simp] theorem recordErr_seq_err (s : State) (e : Err) : (s.recordErr e).seq.err = s.seq.err.or (some e) := rfl
@[simp] theorem recordErr_seq_exitCount (s : State) (e : Err) : (s.recordErr e).seq.exitCount = s.seq.exitCount := rfl
@[simp] theorem recordErr_seq_linkOpen (s : State) (e : Err) : (s.recordErr e).seq.linkOpen = s.seq.linkOpen := rfl
@[simp] theorem recordErr_seq_output (s : State) (e : Err) : (s.recordErr e).seq.output = s.seq.output := rfl
@[simp] theorem recordErr_seq_trace (s : State) (e : Err) : (s.recordErr e).seq.trace = s.seq.trace := rfl
@[simp] theorem recordErr_seq_cfg (s : State) (e : Err) : (s.recordErr e).seq.cfg = s.seq.cfg := rfl
@[simp] theorem recordErr_link (s : State) (e : Err) : (s.recordErr e).link = s.link := rfl
@[simp] theorem recordErr_dec (s : State) (e : Err) : (s.recordErr e).dec = s.dec := rfl
@[simp] theorem recordErr_bus (s : State) (e : Err) : (s.recordErr e).bus = s.bus := rfl
@[simp] theorem recordErr_turn (s : State) (e : Err) : (s.recordErr e).turn = s.turn := rfl
@[simp] theorem recordErr_draws (s : State) (e : Err) : (s.recordErr e).draws = s.draws := rfl
@[simp] theorem recordErr_sessions (s : State) (e : Err) : (s.recordErr e).sessions = s.sessions := rfl

/-! ### imgAppend -/

@[simp] theorem imgAppend_seq_pc (s : State) (b : Byte) : (s.imgAppend b).seq.pc = s.seq.pc := rfl
@[simp] theorem imgAppend_seq_point (s : State) (b : Byte) : (s.imgAppend b).seq.point = s.seq.point := rfl
@[simp] theorem imgAppend_seq_attempt (s : State) (b : Byte) : (s.imgAppend b).seq.attempt = s.seq.attempt := rfl
@[simp] theorem imgAppend_seq_sigIdx (s : State) (b : Byte) : (s.imgAppend b).seq.sigIdx = s.seq.sigIdx := rfl
@[simp] theorem imgAppend_seq_addr (s : State) (b : Byte) : (s.imgAppend b).seq.addr = s.seq.addr := rfl
@[simp] theorem imgAppend_seq_peReply (s : State) (b : Byte) : (s.imgAppend b).seq.peReply = s.seq.peReply := rfl
@[simp] theorem imgAppend_seq_sigGot (s : State) (b : Byte) : (s.imgAppend b).seq.sigGot = s.seq.sigGot := rfl
@[simp] theorem imgAppend_seq_image (s : State) (b : Byte) : (s.imgAppend b).seq.image = s.seq.image.write s.seq.image.length 1 b.toNat := rfl
@[simp] theorem imgAppend_seq_err (s : State) (b : Byte) : (s.imgAppend b).seq.err = s.seq.err := rfl
@[simp] theorem imgAppend_seq_exitCount (s : State) (b : Byte) : (s.imgAppend b).seq.exitCount = s.seq.exitCount := rfl
@[simp] theorem imgAppend_seq_linkOpen (s : State) (b : Byte) : (s.imgAppend b).seq.linkOpen = s.seq.linkOpen := rfl
@[simp] theorem imgAppend_seq_output (s : State) (b : Byte) : (s.imgAppend b).seq.output = s.seq.output := rfl
@[simp] theorem imgAppend_seq_trace (s : State) (b : Byte) : (s.imgAppend b).seq.trace = s.seq.trace := rfl
@[simp] theorem imgAppend_seq_cfg (s : State) (b : Byte) : (s.imgAppend b).seq.cfg = s.seq.cfg := rfl
@[simp] theorem imgAppend_link (s : State) (b : Byte) : (s.imgAppend b).link = s.link := rfl
@[simp] theorem imgAppend_dec (s : State) (b : Byte) : (s.imgAppend b).dec = s.dec := rfl
@[simp] theorem imgAppend_bus (s : State) (b : Byte) : (s.imgAppend b).bus = s.bus := rfl
@[simp] theorem imgAppend_turn (s : State) (b : Byte) : (s.imgAppend b).turn = s.turn := rfl
@[simp] theorem imgAppend_draws (s : State) (b : Byte) : (s.imgAppend b).draws = s.draws := rfl
@[simp] theorem imgAppend_sessions (s : State) (b : Byte) : (s.imgAppend b).sessions = s.sessions := rfl

/-! ### startSession -/

@[simp] theorem startSession_seq (s : State) (c : SessionCfg) : (s.startSession c).seq = Seq.sessionStart c := rfl
@[simp] theorem startSession_link (s : State) (c : SessionCfg) : (s.startSession c).link = s.link := rfl
@[simp] theorem startSession_dec (s : State) (c : SessionCfg) : (s.startSession c).dec = s.dec := rfl
@[simp] theorem startSession_bus (s : State) (c : SessionCfg) : (s.startSession c).bus = s.bus := rfl
@[simp] theorem startSession_turn (s : State) (c : SessionCfg) : (s.startSession c).turn = s.turn := rfl
@[simp] theorem startSession_draws (s : State) (c : SessionCfg) : (s.startSession c).draws = s.draws := rfl
@[simp] theorem startSession_sessions (s : State) (c : SessionCfg) : (s.startSession c).sessions = s.sessions := rfl

/-! ### pushH2d -/

@[simp] theorem pushH2d_seq (s : State) (bs : List Byte) : (s.pushH2d bs).seq = s.seq := rfl
@[simp] theorem pushH2d_link_h2d (s : State) (bs : List Byte) : (s.pushH2d bs).link.h2d = s.link.h2d ++ bs := rfl
@[simp] theorem pushH2d_link_d2h (s : State) (bs : List Byte) : (s.pushH2d bs).link.d2h = s.link.d2h := rfl
@[simp] theorem pushH2d_link_up (s : State) (bs : List Byte) : (s.pushH2d bs).link.up = s.link.up := rfl
@[simp] theorem pushH2d_dec (s : State) (bs : List Byte) : (s.pushH2d bs).dec = s.dec := rfl
@[simp] theorem pushH2d_bus (s : State) (bs : List Byte) : (s.pushH2d bs).bus = s.bus := rfl
@[simp] theorem pushH2d_turn (s : State) (bs : List Byte) : (s.pushH2d bs).turn = s.turn := rfl
@[simp] theorem pushH2d_draws (s : State) (bs : List Byte) : (s.pushH2d bs).draws = s.draws := rfl
@[simp] theorem pushH2d_sessions (s : State) (bs : List Byte) : (s.pushH2d bs).sessions = s.sessions := rfl

/-! ### setD2h -/

@[simp] theorem setD2h_seq (s : State) (bs : List Byte) : (s.setD2h bs).seq = s.seq := rfl
@[simp] theorem setD2h_link_h2d (s : State) (bs : List Byte) : (s.setD2h bs).link.h2d = s.link.h2d := rfl
@[simp] theorem setD2h_link_d2h (s : State) (bs : List Byte) : (s.setD2h bs).link.d2h = bs := rfl
@[simp] theorem setD2h_link_up (s : State) (bs : List Byte) : (s.setD2h bs).link.up = s.link.up := rfl
@[simp] theorem setD2h_dec (s : State) (bs : List Byte) : (s.setD2h bs).dec = s.dec := rfl
@[simp] theorem setD2h_bus (s : State) (bs : List Byte) : (s.setD2h bs).bus = s.bus := rfl
@[simp] theorem setD2h_turn (s : State) (bs : List Byte) : (s.setD2h bs).turn = s.turn := rfl
@[simp] theorem setD2h_draws (s : State) (bs : List Byte) : (s.setD2h bs).draws = s.draws := rfl
@[simp] theorem setD2h_sessions (s : State) (bs : List Byte) : (s.setD2h bs).sessions = s.sessions := rfl

/-! ### linkOpened -/

@[simp] theorem linkOpened_seq (s : State) : s.linkOpened.seq = s.seq := rfl
@[simp] theorem linkOpened_link (s : State) : s.linkOpened.link = { h2d := [], d2h := [], up := true } := rfl
@[simp] theorem linkOpened_dec (s : State) : s.linkOpened.dec = s.dec := rfl
@[simp] theorem linkOpened_bus (s : State) : s.linkOpened.bus = s.bus := rfl
@[simp] theorem linkOpened_turn (s : State) : s.linkOpened.turn = s.turn := rfl
@[simp] theorem linkOpened_draws (s : State) : s.linkOpened.draws = s.draws := rfl
@[simp] theorem linkOpened_sessions (s : State) : s.linkOpened.sessions = s.sessions := rfl

/-! ### linkClose -/

@[simp] theorem linkClose_seq (s : State) : s.linkClose.seq = s.seq := rfl
@[simp] theorem linkClose_link_h2d (s : State) : s.linkClose.link.h2d = s.link.h2d := rfl
@[simp] theorem linkClose_link_d2h (s : State) : s.linkClose.link.d2h = [] := rfl
@[simp] theorem linkClose_link_up (s : State) : s.linkClose.link.up = false := rfl
@[simp] theorem linkClose_dec (s : State) : s.linkClose.dec = s.dec := rfl
@[simp] theorem linkClose_bus (s : State) : s.linkClose.bus = s.bus := rfl
@[simp] theorem linkClose_turn (s : State) : s.linkClose.turn = s.turn := rfl
@[simp] theorem linkClose_draws (s : State) : s.linkClose.draws = s.draws := rfl
@[simp] theorem linkClose_sessions (s : State) : s.linkClose.sessions = s.sessions := rfl

/-! ### linkDrop -/

@[simp] theorem linkDrop_seq (s : State) : s.linkDrop.seq = s.seq := rfl
@[simp] theorem linkDrop_link_h2d (s : State) : s.linkDrop.link.h2d = s.link.h2d := rfl
@[simp] theorem linkDrop_link_d2h (s : State) : s.linkDrop.link.d2h = s.link.d2h := rfl
@[simp] theorem linkDrop_link_up (s : State) : s.linkDrop.link.up = false := rfl
@[simp] theorem linkDrop_dec (s : State) : s.linkDrop.dec = s.dec := rfl
@[simp] theorem linkDrop_bus (s : State) : s.linkDrop.bus = s.bus := rfl
@[simp] theorem linkDrop_turn (s : State) : s.linkDrop.turn = s.turn := rfl
@[simp] theorem linkDrop_draws (s : State) : s.linkDrop.draws = s.draws := rfl
@[simp] theorem linkDrop_sessions (s : State) : s.linkDrop.sessions = s.sessions := rfl

end Sys2Proof.Machine.State
end

