-- ==== Sys2Proof/Laws/Memory.lean ====
section
/-! SUPPORT. The laws of the image memory: read after write, the canonical form is kept by every operation,
and appends to and reads of a gapless image. -/

namespace Sys2Proof.Machine.Memory

theorem readByte_writeByte_same (m : Memory) (a : Nat) (b : Byte) :
    (m.writeByte a b).readByte a = some b := by
  induction m with
  | nil => simp [writeByte, readByte]
  | cons c rest ih =>
    simp only [writeByte]
    split
    · simp [readByte]
    · split
      · simp [readByte]
      · rename_i h1 h2
        simp [readByte, ih, Ne.symm h2]

theorem readByte_writeByte_other (m : Memory) (a k : Nat) (b : Byte) (h : k ≠ a) :
    (m.writeByte a b).readByte k = m.readByte k := by
  induction m with
  | nil => simp [writeByte, readByte, h.symm]
  | cons c rest ih =>
    simp only [writeByte]
    split
    · simp [readByte, h.symm]
    · split
      · rename_i h2
        subst h2
        simp [readByte, h.symm]
      · simp [readByte, ih]

theorem wf_tail {c : Host.Cell} {m : Memory} (h : wf (c :: m) = true) : wf m = true := by
  cases m with
  | nil => rfl
  | cons d rest => simp [wf] at h; exact h.2

theorem wf_cons {c : Host.Cell} {m : Memory} (hm : wf m = true) (h : ∀ d ∈ m.head?, c.1 < d.1) :
    wf (c :: m) = true := by
  cases m with
  | nil => rfl
  | cons d rest => simpa [wf, hm] using h d rfl

theorem head?_writeByte (m : Memory) (a : Nat) (b : Byte) (d : Host.Cell)
    (h : d ∈ (m.writeByte a b).head?) : d.1 = a ∨ d ∈ m.head? := by
  cases m with
  | nil => simp [writeByte] at h; simp [← h]
  | cons c rest =>
    simp only [writeByte] at h
    split at h
    · simp at h; simp [← h]
    · split at h
      · simp at h; simp [← h]
      · simp at h; simp [h]

/-- Writing a byte keeps the canonical form. -/
theorem writeByte_wf (m : Memory) (a : Nat) (b : Byte) (h : m.wf = true) :
    (m.writeByte a b).wf = true := by
  induction m with
  | nil => rfl
  | cons c rest ih =>
    simp only [writeByte]
    split
    · rename_i hlt
      exact wf_cons h (by simp; exact hlt)
    · split
      · rename_i heq
        refine wf_cons (wf_tail h) ?_
        intro d hd
        cases rest with
        | nil => simp at hd
        | cons e rest =>
          simp at hd
          subst hd
          simp [wf] at h
          simpa [heq] using h.1
      · rename_i h1 h2
        refine wf_cons (ih (wf_tail h)) ?_
        intro d hd
        rcases head?_writeByte rest a b d hd with hd | hd
        · simp only [hd]; omega
        · cases rest with
          | nil => simp at hd
          | cons e rest =>
            simp at hd
            subst hd
            simp [wf] at h
            exact h.1

/-- A wide write keeps the canonical form. -/
theorem write_wf (m : Memory) (a n v : Nat) (h : m.wf = true) : (m.write a n v).wf = true := by
  induction n generalizing m a v with
  | zero => exact h
  | succ n ih => exact ih _ _ _ (writeByte_wf _ _ _ h)

/-- The image at reset has the canonical form. -/
theorem reset_wf : State.reset.seq.image.wf = true := rfl

@[simp] theorem write_one (m : Memory) (a : Nat) (b : Byte) : m.write a 1 b.toNat = m.writeByte a b := by
  simp [write]

/-- A write above every listed offset is an append. -/
theorem writeByte_above (m : Memory) (a : Nat) (b : Byte) (h : ∀ c ∈ m, c.1 < a) :
    m.writeByte a b = m ++ [(a, b)] := by
  induction m with
  | nil => rfl
  | cons c rest ih =>
    have hc : c.1 < a := h c (by simp)
    have hr : ∀ d ∈ rest, d.1 < a := fun d hd => h d (by simp [hd])
    simp only [writeByte, ih hr, List.cons_append]
    rw [if_neg (by omega), if_neg (by omega)]

/-- ImgAppend on a gapless image is an append of one byte at the end (R207). -/
theorem append_gapless (m : Memory) (b : Byte) (h : m.map Prod.fst = List.range m.length) :
    m.write m.length 1 b.toNat = m ++ [(m.length, b)] := by
  rw [write_one]
  refine writeByte_above m m.length b (fun c hc => ?_)
  have : c.1 ∈ m.map Prod.fst := List.mem_map_of_mem hc
  rw [h] at this
  exact List.mem_range.mp this

/-- An append keeps the image gapless. -/
theorem gapless_append (m : Memory) (b : Byte) (h : m.map Prod.fst = List.range m.length) :
    (m ++ [(m.length, b)]).map Prod.fst = List.range (m ++ [(m.length, b)]).length := by
  simp [h, List.range_succ]

/-- A read beyond the image's length faults, whatever its width (R208). -/
theorem read_beyond (m : Memory) (a n : Nat) (h : m.length < a + n) : m.read a n = .error .imageUnwritten := by
  simp [read, Nat.not_le.mpr h]

theorem readByte_gapless (m : Memory) (k i : Nat) (h : m.map Prod.fst = List.range' k m.length) :
    m.readByte (k + i) = m.bytes[i]? := by
  induction m generalizing k i with
  | nil => rfl
  | cons c rest ih =>
    have hc : c.1 = k ∧ rest.map Prod.fst = List.range' (k + 1) rest.length := by
      simpa [List.range'_succ] using h
    cases i with
    | zero => simp [readByte, hc.1, bytes]
    | succ i =>
      have hne : c.1 ≠ k + (i + 1) := by omega
      rw [readByte, if_neg hne, show k + (i + 1) = k + 1 + i by omega, ih (k + 1) i hc.2]
      simp [bytes]

theorem readFrom_gapless (m : Memory) (a n : Nat) (h : m.map Prod.fst = List.range m.length)
    (hn : a + n ≤ m.length) : m.readFrom a n = .ok ((m.bytes.drop a).take n) := by
  induction n generalizing a with
  | zero => simp [readFrom]
  | succ n ih =>
    have hb : a < m.bytes.length := by simp [bytes]; omega
    have hr := readByte_gapless m 0 a (by rw [h, List.range_eq_range'])
    rw [Nat.zero_add, List.getElem?_eq_getElem hb] at hr
    rw [readFrom, hr]
    simp only [ih (a + 1) (by omega)]
    rw [← List.getElem_cons_drop hb, List.take_succ_cons]

/-- A read within the length of a gapless image answers its bytes (R208, R209). -/
theorem read_gapless (m : Memory) (a n : Nat) (h : m.map Prod.fst = List.range m.length)
    (hn : a + n ≤ m.length) : m.read a n = .ok ((m.bytes.drop a).take n) := by
  rw [read, if_pos hn, readFrom_gapless m a n h hn]

/-- A gapless image is in canonical form. -/
theorem wf_of_gapless (m : Memory) (k : Nat) (h : m.map Prod.fst = List.range' k m.length) :
    m.wf = true := by
  induction m generalizing k with
  | nil => rfl
  | cons c rest ih =>
    have hc : c.1 = k ∧ rest.map Prod.fst = List.range' (k + 1) rest.length := by
      simpa [List.range'_succ] using h
    refine wf_cons (ih (k + 1) hc.2) ?_
    intro d hd
    cases rest with
    | nil => simp at hd
    | cons e rest =>
      simp at hd
      subst hd
      have := hc.2
      simp [List.range'_succ] at this
      omega

end Sys2Proof.Machine.Memory
end

