-- ==== Sys2Proof/Laws/Ops.lean ====
section
/-! SUPPORT. For each shared operation, one lemma that says everything it can do. -/

namespace Sys2Proof.Machine

/-! ### Outcomes -/

@[simp] theorem andThen_next (s : State) (f : State → Result) : andThen (.next s) f = f s := rfl
@[simp] theorem andThen_fault (r : Fault) (f : State → Result) : andThen (.fault r) f = .fault r := rfl
@[simp] theorem andThen_refused (r : Refusal) (f : State → Result) : andThen (.refused r) f = .refused r := rfl

/-- A chain that answers a next state passed through a next state. -/
theorem andThen_eq_next {o : Result} {f : State → Result} {t : State} (h : andThen o f = .next t) :
    ∃ u, o = .next u ∧ f u = .next t := by
  cases o with
  | next u => exact ⟨u, rfl, h⟩
  | fault r => simp [andThen] at h
  | refused r => simp [andThen] at h

/-! ### Raising an error -/

@[simp] theorem State.raise_link (s : State) (e : Err) : (s.raise e).link = s.link := rfl
@[simp] theorem State.raise_dec (s : State) (e : Err) : (s.raise e).dec = s.dec := rfl
@[simp] theorem State.raise_bus (s : State) (e : Err) : (s.raise e).bus = s.bus := rfl
@[simp] theorem State.raise_turn (s : State) (e : Err) : (s.raise e).turn = s.turn := rfl
@[simp] theorem State.raise_draws (s : State) (e : Err) : (s.raise e).draws = s.draws := rfl
@[simp] theorem State.raise_sessions (s : State) (e : Err) : (s.raise e).sessions = s.sessions := rfl

/-- What raising an error does to SEQ (R711). -/
@[simp] theorem State.raise_seq (s : State) (e : Err) :
    (s.raise e).seq = { s.seq with
      err := s.seq.err.or (some e), trace := s.seq.trace ++ [.fault e], pc := s.teardownPhase, point := .start } :=
  rfl

/-- The three places an error can send SEQ (R711). -/
theorem State.teardownPhase_cases (s : State) :
    (s.seq.linkOpen = false ∧ s.teardownPhase = .doneErr) ∨
    (s.seq.linkOpen = true ∧ s.seq.exitCount = 0 ∧ s.teardownPhase = .exit) ∨
    (s.seq.linkOpen = true ∧ s.seq.exitCount ≠ 0 ∧ s.teardownPhase = .close) := by
  unfold State.teardownPhase
  cases s.seq.linkOpen <;> by_cases h : s.seq.exitCount = 0 <;> simp [h]

/-! ### The link -/

theorem linkWrite_up {step : StepId} {bs : List Byte} {s : State} {rest : State → State}
    (h : s.link.up = true) : linkWrite step bs s rest = rest (s.pushH2d bs) := by
  simp [linkWrite, h]

theorem linkWrite_down {step : StepId} {bs : List Byte} {s : State} {rest : State → State}
    (h : s.link.up = false) : linkWrite step bs s rest = s.raise (linkLostAt step) := by
  simp [linkWrite, h]

/-- Everything a `LinkWrite` can do (R124). -/
theorem linkWrite_cases (step : StepId) (bs : List Byte) (s : State) (rest : State → State) :
    (s.link.up = true ∧ linkWrite step bs s rest = rest (s.pushH2d bs)) ∨
    (s.link.up = false ∧ linkWrite step bs s rest = s.raise (linkLostAt step)) := by
  cases h : s.link.up
  · exact .inr ⟨rfl, linkWrite_down h⟩
  · exact .inl ⟨rfl, linkWrite_up h⟩

/-- Everything an attempt to complete a `LinkRead` can find (R124). -/
theorem linkRead_cases (n : Nat) (s : State) :
    (s.link.up = false ∧ linkRead n s = .lost) ∨
    (s.link.up = true ∧ n ≤ s.link.d2h.length ∧
      linkRead n s = .got (s.link.d2h.take n) (s.setD2h (s.link.d2h.drop n))) ∨
    (s.link.up = true ∧ s.link.d2h.length < n ∧ Config.readTimesOut s.draws = true ∧
      linkRead n s = .got s.link.d2h (s.setD2h []).tick) ∨
    (s.link.up = true ∧ s.link.d2h.length < n ∧ Config.readTimesOut s.draws = false ∧
      linkRead n s = .holding s.tick) := by
  unfold linkRead
  cases hu : s.link.up
  · simp
  · by_cases hn : n ≤ s.link.d2h.length
    · simp [hn]
    · cases ht : Config.readTimesOut s.draws <;> simp [hn] <;> omega

/-- Everything a `LinkRead` inside a phase can do: it ends the phase, holds, or goes on with r, at most n
bytes, taken off the head of `link.d2h`, in a state that differs in `link.d2h` and the draw counter only. -/
theorem onRead_cases (step : StepId) (n : Nat) (s : State) (rest : List Byte → State → State) :
    (s.link.up = false ∧ onRead step n s rest = s.raise (linkLostAt step)) ∨
    (s.link.up = true ∧ onRead step n s rest = s.tick) ∨
    (∃ r d k, s.link.up = true ∧ r.length ≤ n ∧ s.link.d2h = r ++ d ∧
      onRead step n s rest = rest r { s.setD2h d with draws := k }) := by
  rcases linkRead_cases n s with ⟨hu, h⟩ | ⟨hu, hn, h⟩ | ⟨hu, hn, _, h⟩ | ⟨hu, hn, _, h⟩
  · exact .inl ⟨hu, by simp [onRead, h]⟩
  · exact .inr (.inr ⟨s.link.d2h.take n, s.link.d2h.drop n, s.draws, hu, by simp, by simp,
      by simp [onRead, h, State.setD2h]⟩)
  · exact .inr (.inr ⟨s.link.d2h, [], s.draws + 1, hu, by omega, by simp,
      by simp [onRead, h, State.setD2h, State.tick]⟩)
  · exact .inr (.inl ⟨hu, by simp [onRead, h]⟩)

/-! ### The checks of a reply -/

theorem checkReply_none {step : StepId} {expected actual : List Byte} :
    checkReply step expected actual = none ↔ actual = expected := by
  unfold checkReply
  by_cases h : actual = expected
  · simp [h]
  · by_cases hl : actual.length < expected.length <;> simp [h, hl]

theorem checkReply_short {step : StepId} {expected actual : List Byte}
    (h : actual.length < expected.length) :
    checkReply step expected actual = some (Err.of .shortRead step (exactly expected) actual) := by
  simp [checkReply, h]

theorem checkReply_mismatch {step : StepId} {expected actual : List Byte}
    (hl : expected.length ≤ actual.length) (h : actual ≠ expected) :
    checkReply step expected actual = some (Err.of .ackMismatch step (exactly expected) actual) := by
  simp [checkReply, h, Nat.not_lt.mpr hl]

/-- An error a reply check finds is PROTOCOL at its own step (R703). -/
theorem checkReply_some {step : StepId} {expected actual : List Byte} {e : Err}
    (h : checkReply step expected actual = some e) :
    (e.sub = .shortRead ∨ e.sub = .ackMismatch) ∧ e.kind = .protocol ∧ e.step = step := by
  unfold checkReply at h
  split at h
  · cases h; exact ⟨.inl rfl, rfl, rfl⟩
  · split at h
    · cases h; exact ⟨.inr rfl, rfl, rfl⟩
    · cases h

/-! ### The SPI master -/

/-- The records L are the target's answers to their requests, each given the history before it (R451). -/
def answered (log : List Exchange) (l : List Exchange) : Prop :=
  ∀ k r, l[k]? = some r → r.miso = Config.tgt (log ++ l.take k) r.req

theorem answered_nil (log : List Exchange) : answered log [] := by
  intro k r h; simp at h

theorem answered_cons {log l : List Exchange} {r : Exchange} (hr : r.miso = Config.tgt log r.req)
    (hl : answered (log ++ [r]) l) : answered log (r :: l) := by
  intro k q h
  cases k with
  | zero => simp at h; subst h; simpa using hr
  | succ k => simpa using hl k q (by simpa using h)

theorem answered_append {log l m : List Exchange} (hl : answered log l) (hm : answered (log ++ l) m) :
    answered log (l ++ m) := by
  induction l generalizing log with
  | nil => simpa using hm
  | cons r rest ih =>
    refine answered_cons (by simpa using hl 0 r rfl) (ih ?_ (by simpa using hm))
    intro k q h
    simpa using hl (k + 1) q (by simpa using h)

@[simp] theorem State.request_logExchanges (s : State) (l : List Exchange) :
    (s.logExchanges l).request = s.request := rfl

@[simp] theorem State.logExchanges_logExchanges (s : State) (l m : List Exchange) :
    (s.logExchanges l).logExchanges m = s.logExchanges (l ++ m) := by
  simp [State.logExchanges]

@[simp] theorem State.logExchanges_nil (s : State) : s.logExchanges [] = s := by
  simp [State.logExchanges]

/-- The write phase appends one answered record per payload byte, in order, and does nothing else (R453). -/
theorem writePhase_spec (p : List Byte) (s : State) :
    ∃ l, writePhase p s = s.logExchanges l ∧ l.map Exchange.req = p.map s.request ∧
      answered s.bus.log l := by
  induction p generalizing s with
  | nil => exact ⟨[], by simp [writePhase], rfl, answered_nil _⟩
  | cons b rest ih =>
    obtain ⟨l, h1, h2, h3⟩ := ih (exchange b s).2
    refine ⟨{ req := s.request b, miso := Config.tgt s.bus.log (s.request b) } :: l, ?_, ?_, ?_⟩
    · simp [writePhase, h1]; simp [exchange]
    · simpa [exchange] using h2
    · exact answered_cons rfl (by simpa [exchange] using h3)

/-- The read phase appends one answered record per byte read, shows FILL_BYTE in each, returns the answers
in order and does nothing else (R453). -/
theorem readPhase_spec (m : Nat) (s : State) :
    ∃ l, readPhase m s = (l.map Exchange.miso, s.logExchanges l) ∧
      l.map Exchange.req = List.replicate m (s.request Config.fillByte) ∧ answered s.bus.log l := by
  induction m generalizing s with
  | zero => exact ⟨[], by simp [readPhase], rfl, answered_nil _⟩
  | succ m ih =>
    obtain ⟨l, h1, h2, h3⟩ := ih (exchange Config.fillByte s).2
    refine ⟨{ req := s.request Config.fillByte, miso := Config.tgt s.bus.log (s.request Config.fillByte) } :: l,
      ?_, ?_, ?_⟩
    · simp [readPhase, h1]; simp [exchange]
    · simpa [exchange, List.replicate_succ] using h2
    · exact answered_cons rfl (by simpa [exchange] using h3)

/-- Everything a transfer does (R453): w answers the payload, r the read phase; the reply is the
acknowledgment and the answers of r. -/
theorem wtrExecute_spec (p : List Byte) (m : Nat) (s : State) :
    ∃ w r, wtrExecute p m s = (s.logExchanges (w ++ r)).reply (0x01 :: r.map Exchange.miso) ∧
      w.map Exchange.req = p.map s.request ∧
      r.map Exchange.req = List.replicate m (s.request Config.fillByte) ∧
      answered s.bus.log (w ++ r) := by
  obtain ⟨w, hw1, hw2, hw3⟩ := writePhase_spec p s
  obtain ⟨r, hr1, hr2, hr3⟩ := readPhase_spec m (s.logExchanges w)
  refine ⟨w, r, ?_, hw2, by simpa using hr2, answered_append hw3 (by simpa using hr3)⟩
  simp [wtrExecute, hw1, hr1, Param.ack]

end Sys2Proof.Machine
end

