-- ==== Sys2Proof/Laws/PerInstr.lean ====
section
/-! SUPPORT. What is said of each instruction as syntax, one lemma per constructor. Family `Encoding`: how
many bytes an instruction puts on the link. -/

namespace Sys2Proof.Laws.Encoding

/-- A link command is one byte (R302 to R304); an ISP instruction is a frame of five header bytes and its
payload (R305, R311, R312). -/
def Statement (i : Instr) : Prop :=
  (encode i).length =
    match ispFrame i with
    | none => 1
    | some (p, _) => 5 + p.length

theorem tEntry : Statement (.tEntry) := rfl
theorem tOther (b : Byte) : Statement (.tOther b) := rfl
theorem bEntry : Statement (.bEntry) := rfl
theorem bSpiSelect : Statement (.bSpiSelect) := rfl
theorem bResetTerm : Statement (.bResetTerm) := rfl
theorem bUndef (b : Byte) : Statement (.bUndef b) := rfl
theorem sExitBbio : Statement (.sExitBbio) := rfl
theorem sCsLow : Statement (.sCsLow) := rfl
theorem sCsHigh : Statement (.sCsHigh) := rfl
theorem sCfg (e p h d : Bit) : Statement (.sCfg e p h d) := rfl
theorem sSpeed (r : Rate) : Statement (.sSpeed r) := rfl
theorem sWtr : Statement (.sWtr) := rfl
theorem sWtrHdr (b : Byte) : Statement (.sWtrHdr b) := rfl
theorem sWtrData (b : Byte) : Statement (.sWtrData b) := rfl
theorem sUndef (b : Byte) : Statement (.sUndef b) := rfl
theorem xAny (b : Byte) : Statement (.xAny b) := rfl
theorem ispPe : Statement (.ispPe) := rfl
theorem ispRsig (i : BitVec 2) : Statement (.ispRsig i) := rfl
theorem ispRdl (a : WordAddr) : Statement (.ispRdl a) := rfl
theorem ispRdh (a : WordAddr) : Statement (.ispRdh a) := rfl

end Sys2Proof.Laws.Encoding
end

