-- ==== Sys2Proof/Laws/Sequencer.lean ====
section
/-! SUPPORT. Where SEQ reads: `Seq.reading` names exactly the reads of SEQ's step, and no other part of it
takes the timeout draw (R124). -/

namespace Sys2Proof.Machine

/-- Where `Seq.reading` says n, SEQ's step is a `LinkRead` of n bytes and what follows it. -/
theorem seqTurn_reads (s : State) (n : Nat) (h : s.seq.reading = some n) :
    ∃ step rest, seqTurn s = .next (onRead step n s rest) := by
  cases hp : s.seq.point <;> cases hpc : s.seq.pc <;> simp only [Seq.reading, hp, hpc] at h
  all_goals first
    | (cases h; done)
    | (cases h; exact ⟨_, _, by simp only [seqTurn, hpc, phaseEntry, phaseBusSel, phaseCfg, phaseSpeed, phaseCsLow, phaseCsHigh, phasePe, phaseRdl, phaseRdh, ctrl, xfer, hp]; rfl⟩)
    | (split at h <;> cases h
       next hi => exact ⟨_, _, by simp only [seqTurn, hpc, phaseSig, dif_pos hi, xfer, hp]; rfl⟩)

/-- A read that is pending holds SEQ: the step takes the timeout draw and nothing else. -/
theorem seqTurn_holds (s : State) (n : Nat) (h : s.seq.reading = some n) (hu : s.link.up = true)
    (hn : s.link.d2h.length < n) (ht : Config.readTimesOut s.draws = false) : seqTurn s = .next s.tick := by
  obtain ⟨step, rest, e⟩ := seqTurn_reads s n h
  rw [e, onRead, linkRead, if_neg (by simp [hu]), if_neg (by omega), ht]
  rfl

theorem beginTx_draws (step : StepId) (bs : List Byte) (s : State) : (beginTx step bs s).draws = s.draws := by
  rcases linkWrite_cases step bs (s.emit (.txBegin step bs)) (fun s => s.setPoint .awaitAck) with ⟨_, e⟩ | ⟨_, e⟩ <;>
    rw [beginTx, e] <;> rfl

theorem ctrl_draws {step : StepId} {c : Byte} {expected : List Byte} {next : Phase} {s t : State}
    (hp : s.seq.point ≠ .awaitAck) (ht : ctrl step c expected next s = .next t) : t.draws = s.draws := by
  unfold ctrl at ht
  split at ht
  · cases ht; exact beginTx_draws _ _ _
  · next h => exact absurd h hp
  · cases ht

theorem xfer_draws {step : StepId} {p : List Byte} {m : Count} {rest : List Byte → State → State} {s t : State}
    (hp : s.seq.point = .start) (ht : xfer step p m rest s = .next t) : t.draws = s.draws := by
  rw [xfer, hp] at ht
  cases ht
  exact beginTx_draws _ _ _

/-- SEQ takes the timeout draw only where `Seq.reading` says that it stands in a read; outside a read, P_OPEN's
draw is its only one. -/
theorem seqTurn_draws (s t : State) (h : s.seq.reading = none) (hpc : s.seq.pc ≠ .opening)
    (ht : seqTurn s = .next t) : t.draws = s.draws := by
  have hctl : s.seq.pc = .busSel ∨ s.seq.pc = .cfg ∨ s.seq.pc = .speed ∨ s.seq.pc = .csLow ∨ s.seq.pc = .csHigh →
      s.seq.point ≠ .awaitAck := by
    intro hc hp
    rcases hc with hc | hc | hc | hc | hc <;> simp [Seq.reading, hp, hc] at h
  have hfrm : s.seq.pc = .pe ∨ (s.seq.pc = .sig ∧ s.seq.sigIdx.val < 3) ∨ s.seq.pc = .rdl ∨ s.seq.pc = .rdh →
      s.seq.point = .start := by
    intro hc
    rcases hc with hc | ⟨hc, hi⟩ | hc | hc <;> cases hp : s.seq.point <;> simp_all [Seq.reading]
  unfold seqTurn at ht
  split at ht <;> rename_i hc
  · cases ht; rfl
  · exact absurd hc hpc
  · unfold phaseEntry at ht
    split at ht
    · cases ht; rw [beginTx_draws]; rfl
    · next hp => simp [Seq.reading, hp, hc] at h
    · cases ht
  · exact ctrl_draws (hctl (by simp [hc])) ht
  · exact ctrl_draws (hctl (by simp [hc])) ht
  · exact ctrl_draws (hctl (by simp [hc])) ht
  · exact ctrl_draws (hctl (by simp [hc])) ht
  · exact xfer_draws (hfrm (by simp [hc])) ht
  · unfold phaseSig at ht
    split at ht
    · next hi => exact xfer_draws (hfrm (by simp [hc, hi])) ht
    · cases ht
  · exact xfer_draws (hfrm (by simp [hc])) ht
  · exact xfer_draws (hfrm (by simp [hc])) ht
  · exact ctrl_draws (hctl (by simp [hc])) ht
  · cases ht
    rcases linkWrite_cases .sExit Param.exitSequence
      ((s.setExitCount (s.seq.exitCount + 1)).emit (.txBegin .sExit Param.exitSequence))
      (fun u => (u.emit (.txEnd .sExit [])).goto .close) with ⟨_, e⟩ | ⟨_, e⟩ <;> rw [e] <;> rfl
  · unfold phaseClose at ht
    simp only at ht
    split at ht <;> cases ht <;> rfl
  all_goals
    unfold phaseDone at ht
    split at ht <;> cases ht <;> rfl

end Sys2Proof.Machine
end

