-- ==== Sys2Proof/Tests/Slice0.lean ====
section
/-! SUPPORT. The model's own tests. Expected results are taken from the spec: the encodings of
30_encoding.md and the vectors of 95_test_vectors.md (M, E, DV, T, IV, S, F, P). After them stand the
witnesses: for each statement with hypotheses, a concrete state and operands that meet them. -/

namespace Sys2Proof.Tests

open Sys2Proof Sys2Proof.Machine

/-! ### Small states and a look at a result -/

/-- DEC in a mode and parser state, the rest as after power-on, the link up. -/
def dec (m : Mode) (p : Parse) : State :=
  { State.reset with
    dec := { Dec.powerOn with mode := m, parse := p }
    link := { h2d := [], d2h := [], up := true }
    turn := .dec }

/-- A configuration with n words. -/
def cfg (n : Fin 16385) : SessionCfg where
  cfgEn := 1
  cfgCpol := 0
  cfgCpha := 0
  cfgDevsel := 0
  speedSel := 0
  addrSpaceSize := n
  expectedSig := #v[0x1E, 0x95, 0x0F]
  maxEntryAttempts := 20

/-- SEQ in a phase, the link open and holding these reply bytes, n words to read. -/
def seq (n : Fin 16385) (p : Phase) (at' : Point) (d2h : List Byte) : State :=
  { State.reset with
    seq := { Seq.sessionStart (cfg n) with pc := p, point := at', linkOpen := true }
    link := { h2d := [], d2h := d2h, up := true } }

/-- The result is a next state of which p holds. -/
def nextIs (o : Result) (p : State → Bool) : Bool :=
  match o with
  | .next t => p t
  | .fault _ => false
  | .refused _ => false

/-! ### WellFormed: a term each check refuses -/

theorem test_wf_tOther : (Instr.tOther 0x00).wf = false := by decide
theorem test_wf_bUndef_entry : (Instr.bUndef 0x00).wf = false := by decide
theorem test_wf_bUndef_select : (Instr.bUndef 0x01).wf = false := by decide
theorem test_wf_bUndef_reset : (Instr.bUndef 0x0F).wf = false := by decide
theorem test_wf_sUndef_exit : (Instr.sUndef 0x00).wf = false := by decide
theorem test_wf_sUndef_csLow : (Instr.sUndef 0x02).wf = false := by decide
theorem test_wf_sUndef_csHigh : (Instr.sUndef 0x03).wf = false := by decide
theorem test_wf_sUndef_wtr : (Instr.sUndef 0x04).wf = false := by decide
theorem test_wf_sUndef_speed : (Instr.sUndef 0x60).wf = false ∧ (Instr.sUndef 0x67).wf = false := by decide
theorem test_wf_sUndef_cfg : (Instr.sUndef 0x80).wf = false ∧ (Instr.sUndef 0x8F).wf = false := by decide
theorem test_wf_ispRsig : (Instr.ispRsig 3).wf = false := by decide

/-! ### Decoding: words written out from R303 to R313 -/

theorem test_decode_tEntry : decodeLink .terminal .idle 0b00000000 = .tEntry := by decide
theorem test_decode_tOther : decodeLink .terminal .idle 0b00001111 = .tOther 0x0F := by decide
theorem test_decode_bEntry : decodeLink .bbio .idle 0b00000000 = .bEntry := by decide
theorem test_decode_bSpiSelect : decodeLink .bbio .idle 0b00000001 = .bSpiSelect := by decide
theorem test_decode_bResetTerm : decodeLink .bbio .idle 0b00001111 = .bResetTerm := by decide
theorem test_decode_bUndef : decodeLink .bbio .idle 0b00000010 = .bUndef 0x02 := by decide
theorem test_decode_sExitBbio : decodeLink .spi .idle 0b00000000 = .sExitBbio := by decide
theorem test_decode_sCsLow : decodeLink .spi .idle 0b00000010 = .sCsLow := by decide
theorem test_decode_sCsHigh : decodeLink .spi .idle 0b00000011 = .sCsHigh := by decide
/-- 1000EPHD with E = 1, P = 0, H = 1, D = 0 (R303). -/
theorem test_decode_sCfg : decodeLink .spi .idle 0b10001010 = .sCfg 1 0 1 0 := by decide
/-- 01100SSS with S = 5 (R304). -/
theorem test_decode_sSpeed : decodeLink .spi .idle 0b01100101 = .sSpeed 5 := by decide
theorem test_decode_sWtr : decodeLink .spi .idle 0b00000100 = .sWtr := by decide
theorem test_decode_sWtrHdr : decodeLink .spi (.hdr 2 [0x00, 0x03]) 0x00 = .sWtrHdr 0x00 := by decide
theorem test_decode_sWtrData : decodeLink .spi (.data 4 4 [0xAC, 0x53]) 0x00 = .sWtrData 0x00 := by decide
theorem test_decode_sUndef : decodeLink .spi .idle 0b01101000 = .sUndef 0x68 := by decide
theorem test_decode_xAny : decodeLink .desync .idle 0b00000001 = .xAny 0x01 := by decide
/-- 10101100 01010011 00000000 00000000 (R313). -/
theorem test_decode_ispPe :
    decodeIsp [0b10101100, 0b01010011, 0b00000000, 0b00000000] 4 = .ok .ispPe := by decide
/-- 00110000 00000000 000000ii with i = 2 (R313). -/
theorem test_decode_ispRsig : decodeIsp [0b00110000, 0b00000000, 0b00000010] 1 = .ok (.ispRsig 2) := by decide
/-- 00100000 00aaaaaa aaaaaaaa with a = 0x1234 (R313). -/
theorem test_decode_ispRdl :
    decodeIsp [0b00100000, 0b00010010, 0b00110100] 1 = .ok (.ispRdl 0x1234) := by decide
/-- 00101000 00aaaaaa aaaaaaaa with a = 0x3FFF (R313). -/
theorem test_decode_ispRdh :
    decodeIsp [0b00101000, 0b00111111, 0b11111111] 1 = .ok (.ispRdh 0x3FFF) := by decide
/-- The last payload byte of a frame is read as the ISP instruction the frame carries. -/
theorem test_decode_last_byte : decodeLink .spi (.data 3 1 [0x30, 0x00]) 0x01 = .ispRsig 1 := by decide
/-- Reserved ISP payloads are refused by name (R318): index 3, a segment above 0x3F, a wrong read count. -/
theorem test_decode_reserved :
    decodeIsp [0x30, 0x00, 0x03] 1 = .error .reservedIsp ∧ decodeIsp [0x20, 0x40, 0x00] 1 = .error .reservedIsp ∧
    decodeIsp [0x28, 0x12, 0x34] 2 = .error .reservedIsp := by decide
theorem test_decode_frames :
    decodeIspFrame [0x04, 0x00, 0x03, 0x00, 0x01, 0x20, 0x12] = .error .truncatedFrame ∧
    decodeIspFrame [0x04, 0x10, 0x01, 0x00, 0x00] = .error .countTooLarge ∧
    decodeIspFrame [0x05, 0x00, 0x03, 0x00, 0x01] = .error .notAFrame ∧
    decodeIspFrame [] = .error .noByte := by decide

/-- Words of the opcode table, numbered as the table numbers them. -/
theorem test_table_words :
    decodeTableWord 8 0x00 = some .tEntry ∧ decodeTableWord 8 0x01 = some .bSpiSelect ∧
    decodeTableWord 8 0x0F = some .bResetTerm ∧ decodeTableWord 8 0x02 = some .sCsLow ∧
    decodeTableWord 8 0x03 = some .sCsHigh ∧ decodeTableWord 8 0x80 = some (.sCfg 0 0 0 0) ∧
    decodeTableWord 8 0x60 = some (.sSpeed 0) ∧ decodeTableWord 8 0x04 = some .sWtr := by decide
theorem test_table_isp_words :
    decodeTableWord 32 0xAC530000 = some .ispPe ∧ decodeTableWord 32 0x30000200 = some (.ispRsig 2) ∧
    decodeTableWord 32 0x20123400 = some (.ispRdl 0x1234) ∧
    decodeTableWord 32 0x283FFFFF = some (.ispRdh 0x3FFF) ∧ decodeTableWord 32 0x30000300 = none := by decide

/-- The placed instruction is the next one DEC reads. -/
theorem test_fetch_word :
    (State.reset.withFetchWord 8 0x8F).turn = .dec ∧
    (State.reset.withFetchWord 8 0x8F).decodes 0x8F = .sCfg 1 1 1 1 ∧
    (State.reset.withFetchWord 32 0x20123400).link.h2d = [0x34] ∧
    (State.reset.withFetchWord 32 0x20123400).decodes 0x34 = .ispRdl 0x1234 := by decide

/-! ### Operands (vectors M1 to M6, E1 to E10) -/

theorem test_decompose :
    decompose 0x0000 = (0x00, 0x00) ∧ decompose 0x00FF = (0x00, 0xFF) ∧ decompose 0x0100 = (0x01, 0x00) ∧
    decompose 0x1234 = (0x12, 0x34) ∧ decompose 0x3FFF = (0x3F, 0xFF) := by decide
theorem test_recompose : recompose 0x3F 0xFF = 0x3FFF ∧ recompose 0x12 0x34 = 0x1234 := by decide
theorem test_cfg_byte :
    cfgByte 1 0 0 0 = 0x88 ∧ cfgByte 1 0 0 1 = 0x89 ∧ cfgByte 0 0 0 0 = 0x80 ∧ cfgByte 1 1 1 1 = 0x8F := by
  decide
theorem test_speed_byte : speedByte 0 = 0x60 ∧ speedByte 7 = 0x67 := by decide
theorem test_header :
    header 4 4 = [0x04, 0x00, 0x04, 0x00, 0x04] ∧ header 0x0102 0x0304 = [0x04, 0x01, 0x02, 0x03, 0x04] ∧
    header 4096 4096 = [0x04, 0x10, 0x00, 0x10, 0x00] := by decide

/-! ### The assembler (R320 to R322, vectors E11, E12, program P1) -/

theorem test_assemble_rdl :
    Asm.assemble "RDL 0x1234 ; low byte".toList = some [0x04, 0x00, 0x03, 0x00, 0x01, 0x20, 0x12, 0x34] := by decide
theorem test_assemble_lines :
    Asm.assemble "ENTRYSEQ 3\nSPI_SELECT\nCFG 1, 0, 0, 0\nSPEED 0\nCS_LOW".toList =
      some [0x00, 0x00, 0x00, 0x01, 0x88, 0x60, 0x02] := by decide
theorem test_assemble_exit : Asm.assemble "CS_HIGH\nEXITSEQ".toList = some [0x03, 0x00, 0x0F] := by decide

/-! ### The image memory (R205, R208, vectors M7 to M10) -/

theorem test_memory_canonical :
    Memory.writeByte (Memory.writeByte (Memory.writeByte [] 5 0xAA) 2 0xBB) 5 0xCC = [(2, 0xBB), (5, 0xCC)] ∧
    Memory.wf [(2, 0xBB), (5, 0xCC)] = true ∧ Memory.wf [(5, 0xCC), (2, 0xBB)] = false ∧
    Memory.wf [(2, 0xBB), (2, 0xCC)] = false := by decide
theorem test_memory_read_past_end :
    Memory.read [(0, 0x01), (1, 0x02), (2, 0x03), (3, 0x04)] 4 1 = .error .imageUnwritten ∧
    Memory.read [(0, 0x01), (1, 0x02), (2, 0x03), (3, 0x04)] 2 2 = .ok [0x03, 0x04] ∧
    Memory.read [(0, 0x01)] 1 0 = .ok [] ∧ Memory.read [(0, 0x01)] 2 0 = .error .imageUnwritten := by decide
theorem test_memory_little_endian : Memory.write [] 0 2 0x1234 = [(0, 0x34), (1, 0x12)] := by decide
theorem test_read_unwritten : readWritten State.reset.seq.peReply = .error .readUnwritten := by rfl

/-! ### The decoder's commands (vectors DV1 to DV24) -/

/-- DV3: the run ends and DEC stays in TERMINAL. -/
theorem test_tOther :
    nextIs (exec (.tOther 0x0F) ((dec .terminal .idle).setEntryRun 2))
      (fun t => t.dec.mode == .terminal && t.dec.entryRun == 0) = true := by decide
/-- DV5 -/
theorem test_bEntry :
    nextIs (exec .bEntry (dec .bbio .idle))
      (fun t => t.dec.mode == .bbio && t.link.d2h == [0x42, 0x42, 0x49, 0x4F, 0x31]) = true := by decide
/-- DV6 -/
theorem test_bSpiSelect :
    nextIs (exec .bSpiSelect ((dec .bbio .idle).setCsN 0))
      (fun t => t.dec.mode == .spi && t.dec.csN == 0 && t.link.d2h == [0x53, 0x50, 0x49, 0x31]) = true := by
  decide
/-- DV7 -/
theorem test_bResetTerm :
    nextIs (exec .bResetTerm ((dec .bbio .idle).setCsN 0))
      (fun t => t.dec.mode == .terminal && t.dec.csN == 1 && t.dec.entryRun == 0) = true := by decide
/-- DV8 -/
theorem test_bUndef : nextIs (exec (.bUndef 0x02) (dec .bbio .idle)) (fun t => t.dec.mode == .desync) = true := by
  decide
/-- DV9 -/
theorem test_sExitBbio :
    nextIs (exec .sExitBbio ((dec .spi .idle).setCsN 0))
      (fun t => t.dec.mode == .bbio && t.dec.csN == 1 && t.link.d2h == [0x42, 0x42, 0x49, 0x4F, 0x31]) = true := by
  decide
/-- DV10 -/
theorem test_sCsLow :
    nextIs (consumeAll [0x02, 0x02] (dec .spi .idle))
      (fun t => t.dec.mode == .spi && t.dec.csN == 0 && t.link.d2h == [0x01, 0x01]) = true := by decide
theorem test_sCsHigh :
    nextIs (exec .sCsHigh ((dec .spi .idle).setCsN 0)) (fun t => t.dec.csN == 1 && t.link.d2h == [0x01]) = true := by
  decide
/-- DV11 -/
theorem test_sCfg :
    nextIs (consume 0x89 (dec .spi .idle))
      (fun t => t.dec.cfgEn == some 1 && t.dec.cfgCpol == some 0 && t.dec.cfgCpha == some 0 &&
        t.dec.cfgDevsel == some 1 && t.link.d2h == [0x01]) = true := by decide
/-- DV12 -/
theorem test_sSpeed :
    nextIs (consume 0x67 (dec .spi .idle)) (fun t => t.dec.speedSel == some 7 && t.link.d2h == [0x01]) = true := by
  decide
/-- DV13 -/
theorem test_sWtr :
    nextIs (consumeAll [0x04, 0x00, 0x03, 0x00, 0x01] (dec .spi .idle))
      (fun t => t.dec.parse == .data 3 1 [] && t.link.d2h == []) = true := by decide
/-- DV14 -/
theorem test_header_nack :
    nextIs (consumeAll [0x04, 0x10, 0x01, 0x00, 0x00] (dec .spi .idle))
      (fun t => t.dec.parse == .idle && t.link.d2h == [0x00] && t.bus.log == []) = true := by decide
/-- DV15 -/
theorem test_header_empty_transfer :
    nextIs (consumeAll [0x04, 0x00, 0x00, 0x00, 0x00] (dec .spi .idle))
      (fun t => t.dec.parse == .idle && t.link.d2h == [0x01] && t.bus.log == []) = true := by decide
/-- E8: the largest counts are accepted. -/
theorem test_header_largest :
    nextIs (consumeAll [0x04, 0x10, 0x00, 0x10, 0x00] (dec .spi .idle))
      (fun t => t.dec.parse == .data 4096 4096 []) = true := by decide
/-- DV21 -/
theorem test_sWtrHdr :
    nextIs (exec (.sWtrHdr 0x00) (dec .spi (.hdr 2 [0x00, 0x03])))
      (fun t => t.dec.parse == .hdr 3 [0x00, 0x03, 0x00] && t.link.d2h == []) = true := by decide
/-- DV18 -/
theorem test_sWtrData :
    nextIs (consume 0x00 (dec .spi (.data 4 4 [0xAC, 0x53])))
      (fun t => t.dec.mode == .spi && t.dec.parse == .data 4 4 [0xAC, 0x53, 0x00] && t.link.d2h == []) = true := by
  decide
/-- T4: a payload with nothing read back. -/
theorem test_sWtrData_last :
    nextIs (exec (.sWtrData 0x34) (dec .spi (.data 3 0 [0x20, 0x12])))
      (fun t => t.dec.parse == .idle && t.bus.log.map (fun r => r.req.mosi) == [0x20, 0x12, 0x34] &&
        t.link.d2h == [0x01]) = true := by decide
/-- DV19, DV20 -/
theorem test_sUndef :
    nextIs (consume 0x0F (dec .spi .idle)) (fun t => t.dec.mode == .desync) = true ∧
    nextIs (consume 0x68 (dec .spi .idle)) (fun t => t.dec.mode == .desync) = true := by decide
/-- DV24 -/
theorem test_xAny : nextIs (exec (.xAny 0x01) (dec .desync .idle)) (fun t => t.dec.mode == .desync) = true := by
  decide
/-- T1, T5: eight exchanges, the first four with PE's bytes, each with the select line as it is. -/
theorem test_ispPe :
    nextIs (exec .ispPe ((dec .spi .idle).setCsN 0))
      (fun t => t.bus.log.length == 8 && (t.bus.log.map (fun r => r.req.mosi)).take 4 == [0xAC, 0x53, 0x00, 0x00] &&
        t.bus.log.all (fun r => r.req.csN == 0) && t.dec.csN == 0 && t.link.d2h.length == 5) = true := by decide
/-- T2 -/
theorem test_ispRsig :
    nextIs (exec (.ispRsig 2) (dec .spi .idle))
      (fun t => t.bus.log.length == 4 && (t.bus.log.map (fun r => r.req.mosi)).take 3 == [0x30, 0x00, 0x02] &&
        t.link.d2h.length == 2 && t.link.d2h.head? == some 0x01) = true := by decide
/-- IV6 -/
theorem test_ispRdl :
    nextIs (exec (.ispRdl 0x1234) (dec .spi .idle))
      (fun t => (t.bus.log.map (fun r => r.req.mosi)).take 3 == [0x20, 0x12, 0x34]) = true := by decide
/-- IV8 -/
theorem test_ispRdh :
    nextIs (exec (.ispRdh 0x3FFF) (dec .spi .idle))
      (fun t => (t.bus.log.map (fun r => r.req.mosi)).take 3 == [0x28, 0x3F, 0xFF]) = true := by decide

/-! ### The sequencer (vectors S1 to S16, F1 to F4) -/

/-- S1 -/
theorem test_busSel :
    nextIs (seqTurn (seq 2 .busSel .awaitAck [0x53, 0x50, 0x49, 0x31]))
      (fun t => t.seq.pc == .cfg && t.seq.err == none && t.link.d2h == []) = true := by decide
/-- S2: the read returned 53 50 49. -/
theorem test_busSel_short :
    (endCtrl .sBusSel Param.ackSpi .cfg [0x53, 0x50, 0x49] (seq 2 .busSel .awaitAck [])).seq.err =
      some { kind := .protocol, sub := .shortRead, step := .sBusSel
             expected := [.byte 0x53, .byte 0x50, .byte 0x49, .byte 0x31], actual := [0x53, 0x50, 0x49] } := by
  decide
/-- S3 -/
theorem test_csLow_text :
    ((endCtrl .sCsLow Param.ack .pe [] (seq 2 .csLow .awaitAck [])).seq.err.bind Err.operatorText) =
      some "cannot switch chip-select" := by decide
/-- S4 -/
theorem test_cfg_mismatch :
    nextIs (seqTurn (seq 2 .cfg .awaitAck [0x00]))
      (fun t => t.seq.pc == .exit && t.seq.err ==
        some { kind := .protocol, sub := .ackMismatch, step := .sCfg, expected := [.byte 0x01], actual := [0x00] }) =
      true := by decide
/-- S5 -/
theorem test_pe_ack :
    nextIs (seqTurn (seq 2 .pe .awaitAck [0x02, 0xDE]))
      (fun t => t.seq.err.map Err.sub == some .ackMismatch && t.link.d2h == [0xDE]) = true := by decide
/-- S6 -/
theorem test_pe_short :
    (xferReply .sPe 4 [0x01] endPe [0x00, 0x00] (seq 2 .pe (.awaitReply [0x01]) [])).seq.err =
      some { kind := .protocol, sub := .shortRead, step := .sPe, expected := [.any, .any, .any, .any]
             actual := [0x00, 0x00] } := by decide
/-- S7 -/
theorem test_pe_reply :
    nextIs (seqTurn (seq 2 .pe (.awaitReply [0x01]) [0xDE, 0xAD, 0xBE, 0xEF]))
      (fun t => t.seq.peReply == some [0xDE, 0xAD, 0xBE, 0xEF] && t.seq.pc == .sig && t.seq.err == none) = true := by
  decide
/-- S8 -/
theorem test_sig_match :
    nextIs (seqTurn (seq 2 .sig (.awaitReply [0x01]) [0x1E]))
      (fun t => t.seq.sigGot[0] == some 0x1E && t.seq.sigIdx == 1 && t.seq.pc == .sig) = true := by decide
/-- S9 -/
theorem test_sig_last_empty_sweep :
    nextIs (seqTurn ((seq 0 .sig (.awaitReply [0x01]) [0x0F]).setSigIdx 2))
      (fun t => t.seq.sigIdx == 3 && t.seq.pc == .csHigh) = true := by decide
/-- S10 -/
theorem test_sig_mismatch :
    nextIs (seqTurn (seq 2 .sig (.awaitReply [0x01]) [0x1F]))
      (fun t => t.seq.sigGot[0] == some 0x1F && t.seq.pc == .exit && t.seq.err ==
        some { kind := .identity, sub := .sigMismatch, step := .sSig 0, expected := [.byte 0x1E], actual := [0x1F] }) =
      true := by decide
/-- S13 -/
theorem test_rdh_progress :
    nextIs (seqTurn ((seq 16384 .rdh (.awaitReply [0x01]) [0x77]).setAddr 0x00FF))
      (fun t => t.seq.addr == 0x100 && t.seq.pc == .rdl && t.seq.trace.contains (.progress 256)) = true := by decide
/-- S15 -/
theorem test_rdh_last :
    nextIs (seqTurn ((seq 16384 .rdh (.awaitReply [0x01]) [0x77]).setAddr 0x3FFF))
      (fun t => t.seq.addr == 0x4000 && t.seq.pc == .csHigh && t.seq.trace.contains (.progress 16384)) = true := by
  decide
/-- S16, then P_CLOSE: an error leaves the output unpublished. -/
theorem test_close_after_error :
    nextIs (andThen (seqTurn (seq 2 .csHigh .awaitAck [0x00])) (fun t => seqTurn (t.goto .close)))
      (fun t => t.seq.output == none && t.seq.pc == .doneErr) = true := by decide
/-- S20 -/
theorem test_entry_stale :
    nextIs (seqTurn ((seq 2 .entry .awaitAck [0x00, 0x42, 0x42, 0x49, 0x4F, 0x31]).setAttempt 1))
      (fun t => t.seq.pc == .entry && t.seq.point == .start && t.link.d2h == [0x31]) = true := by decide
/-- S18: the last attempt's failure. -/
theorem test_entry_exhausted :
    (endEntry [] ((seq 2 .entry .awaitAck []).setAttempt 20)).seq.err.map Err.sub = some .entryExhausted := by decide
/-- F1 -/
theorem test_raise_before_open :
    ((State.reset.goto .opening).raise (Err.of .openFailed .sOpen [] [])).seq.pc = .doneErr := by decide
/-- F3: the first error stays, the exit was counted, P_CLOSE follows. -/
theorem test_exit_on_lost_link :
    nextIs (seqTurn (((seq 2 .exit .start []).recordErr (Err.of .sigMismatch (.sSig 0) [] [])).linkDrop))
      (fun t => t.seq.err.map Err.sub == some .sigMismatch && t.seq.pc == .close && t.seq.exitCount == 1) = true := by
  decide
/-- P1's end: a run without an error publishes the image. -/
theorem test_close_publishes :
    nextIs (seqTurn ((((seq 2 .close .start []).imgAppend 0x11).imgAppend 0x22)))
      (fun t => t.seq.output == some [0x11, 0x22] && t.seq.pc == .doneOk && t.link.up == false) = true := by decide
/-- P_IDLE (R559). P_OPEN's outcome is a draw, so it is no test. -/
theorem test_idle : nextIs (seqTurn State.reset) (fun t => t.seq.pc == .opening) = true := by decide
/-- The invariant's clauses are not empty of content: a configuration with another signature is not legal. -/
theorem test_legal : ¬ ({ cfg 2 with expectedSig := #v[0x1E, 0x96, 0x0F] } : SessionCfg).legal := by
  unfold SessionCfg.legal; decide

/-- NoTimeout (R732) asks nothing of a step that takes no timeout draw, bytes for DEC or not: P_CLOSE, a phase's
start, a read whose bytes are there, a read on a link that is down. -/
theorem test_no_timeout :
    NoTimeoutAt ((seq 2 .close .start []).setH2d [0x00]) ∧ NoTimeoutAt ((seq 2 .pe .start []).setH2d [0x00]) ∧
    NoTimeoutAt ((seq 2 .busSel .awaitAck [0x53, 0x50, 0x49, 0x31]).setH2d [0x00]) ∧
    NoTimeoutAt ((seq 2 .cfg .awaitAck []).setH2d [0x00]).linkDrop := by
  refine ⟨?_, ?_, ?_, ?_⟩ <;> rintro - ⟨-, n, hn, hu, hl, -⟩ <;> cases hn
  · exact absurd hl (by decide)
  · cases hu
/-- It asks that the draw does not come in a read that lacks bytes, here SEQ's read of "SPI1". -/
theorem test_timeout_read :
    (seq 2 .busSel .awaitAck [0x53]).timesOut ↔ Config.readTimesOut 0 = true :=
  ⟨fun ⟨_, _, _, _, _, h⟩ => h, fun h => ⟨rfl, 4, rfl, rfl, by decide, h⟩⟩

/-! ### Witnesses: decoding and encoding -/

theorem witness_TerminalOther : (0x01 : Byte) ≠ 0x00 ∧ (0xFF : Byte) ≠ 0x00 := by decide
theorem witness_ConfigurationCommands :
    (0x80 ≤ (0x80 : Byte).toNat ∧ (0x80 : Byte).toNat ≤ 0x8F) ∧ (0x80 ≤ (0x8F : Byte).toNat ∧ (0x8F : Byte).toNat ≤ 0x8F) ∧
    (0x60 ≤ (0x60 : Byte).toNat ∧ (0x60 : Byte).toNat ≤ 0x67) ∧ (0x60 ≤ (0x67 : Byte).toNat ∧ (0x67 : Byte).toNat ≤ 0x67) := by
  decide
theorem witness_EncodeThenDecode_command : (Instr.sUndef 0x68).wf = true ∧ ispFrame (.sUndef 0x68) = none := by decide
theorem witness_EncodeThenDecode_isp : (Instr.ispRsig 2).wf = true ∧ ispFrame (.ispRsig 2) ≠ none := by decide
theorem witness_FrameReassembles :
    ([] : List Byte).length < 65536 ∧ (List.replicate 4096 (0 : Byte)).length < 65536 ∧
    (List.replicate 65535 (0 : Byte)).length < 65536 := by
  simp only [List.length_replicate]; decide
theorem witness_AddressSplit :
    (0 : BitVec 15).toNat < 16384 ∧ (16383 : BitVec 15).toNat < 16384 ∧ (0x00 : Byte).toNat ≤ 0x3F ∧
    (0x3F : Byte).toNat ≤ 0x3F := by decide
theorem witness_UndefinedBytes :
    (Instr.bUndef 0x02 = .bUndef 0x02 ∨ Instr.bUndef 0x02 = .sUndef 0x02) ∧
    (Instr.sUndef 0x68 = .bUndef 0x68 ∨ Instr.sUndef 0x68 = .sUndef 0x68) := by decide

/-! ### Witnesses: the decoder's commands -/

theorem witness_HeaderBytes_kept :
    (dec .spi (.hdr 0 [])).dec.parse = .hdr 0 [] ∧ 0 + 1 < 4 ∧
    (dec .spi (.hdr 2 [0x00, 0x03])).dec.parse = .hdr 2 [0x00, 0x03] ∧ 2 + 1 < 4 := by decide
theorem witness_HeaderBytes_complete :
    (dec .spi (.hdr 3 [0x10, 0x00, 0x10])).dec.parse = .hdr 3 [0x10, 0x00, 0x10] ∧ 3 ≤ 3 := by decide
theorem witness_PayloadBytes :
    (dec .spi (.data 3 1 [0x30, 0x00])).dec.parse = .data 3 1 [0x30, 0x00] := by decide
theorem witness_FrameBytes_header : ∀ k acc, (dec .spi .idle).dec.parse ≠ .hdr k acc := by
  intro k acc h; cases h
theorem witness_FrameBytes_length :
    (dec .spi (.hdr 3 [])).dec.parse = .hdr 3 [] ∧ 3 ≤ 3 ∧ ([] : List Byte).length ≠ 3 := by decide
theorem witness_FrameBytes_payload : ∀ n m acc, (dec .spi (.hdr 0 [])).dec.parse ≠ .data n m acc := by
  intro n m acc h; cases h
theorem witness_IspInstructions :
    (Instr.ispPe = .ispPe ∧ [0xAC, 0x53, 0x00, 0x00] = ([0xAC, 0x53, 0x00, 0x00] : List Byte) ∧ 4 = 4) ∧
    (∃ k : BitVec 2, Instr.ispRsig 2 = .ispRsig k ∧ ([0x30, 0x00, 0x02] : List Byte) = [0x30, 0x00, k.setWidth 8]) ∧
    (∃ a : WordAddr, Instr.ispRdl 0x3FFF = .ispRdl a ∧
      ([0x20, 0x3F, 0xFF] : List Byte) = [0x20, BitVec.ofNat 8 (a.toNat / 256), BitVec.ofNat 8 (a.toNat % 256)]) ∧
    (∃ a : WordAddr, Instr.ispRdh 0 = .ispRdh a ∧
      ([0x28, 0x00, 0x00] : List Byte) = [0x28, BitVec.ofNat 8 (a.toNat / 256), BitVec.ofNat 8 (a.toNat % 256)]) :=
  ⟨by decide, ⟨2, rfl, by decide⟩, ⟨0x3FFF, rfl, by decide⟩, ⟨0, rfl, by decide⟩⟩
theorem witness_WholeFrame :
    (dec .spi .idle).dec.mode = .spi ∧ (dec .spi .idle).dec.parse = .idle ∧ ([] : List Byte).length ≤ 4096 ∧
    (List.replicate 4096 (0x00 : Byte)).length ≤ 4096 ∧ 4096 ≤ 4096 := by
  simp only [List.length_replicate]; decide
theorem witness_Oversized :
    (dec .spi .idle).dec.mode = .spi ∧ (dec .spi .idle).dec.parse = .idle ∧
    (4097 < 65536 ∧ 0 < 65536 ∧ (4096 < 4097 ∨ 4096 < 0)) ∧ (0 < 65536 ∧ 65535 < 65536 ∧ (4096 < 0 ∨ 4096 < 65535)) := by
  decide
theorem witness_Unfinished :
    (dec .spi (.data 3 1 [0x20])).dec.mode = .spi ∧ (dec .spi (.data 3 1 [0x20])).dec.parse = .data 3 1 [0x20] ∧
    [(0x20 : Byte)].length + [(0x00 : Byte)].length < (3 : Count).toNat := by decide

/-- DEC in SPI mode, configured, select asserted. -/
def enabledState : State := (((dec .spi .idle).setCsN 0).setCfg 1 0 0 0).setSpeed 0

/-! A run for ConformingTargetAnswersReads: DEC has every turn. From select high it reads CS_LOW, the frame of
PE and the frame of one read. Its target is `Config.tgt`, whatever that is, so the premises are met by a
SIG_T and a FLASH_T that say what it answers. -/

/-- The link bytes of the run, with the payload of its read. -/
def readBytes (p : List Byte) : List Byte := 0x02 :: (frame pePayload peReads ++ frame p oneRead)

/-- A step, the next turn given to `who`; a machine that has stopped stands still. -/
def follow (who : Agent) (s : State) : State :=
  match step s with
  | .next t => { t with turn := who }
  | .fault _ => s
  | .refused _ => s

theorem follow_next {s u : State} {who : Agent} (h : step s = .next u) : follow who s = { u with turn := who } := by
  rw [follow, h]

theorem follow_cases (who : Agent) (s : State) :
    Follows s (follow who s) ∨ (Stopped s ∧ follow who s = s) := by
  rcases h : step s with u | e | e
  · exact .inl ⟨u, who, h, follow_next h⟩
  · exact .inr ⟨fun t ht => (by rw [h] at ht; cases ht), by rw [follow, h]⟩
  · exact .inr ⟨fun t ht => (by rw [h] at ht; cases ht), by rw [follow, h]⟩

/-- A sequence in which each state is the one `follow` gives is a run. -/
theorem isRun_of_follow {r : Nat → State} (who : Agent) (h : ∀ k, r (k + 1) = follow who (r k)) : IsRun r := by
  intro k
  rw [h k]
  exact follow_cases who (r k)

/-- The payloads of the three witnesses: RSIG 2, RDL 0x1234, RDH 0x3FFE. -/
def payloads : List (List Byte) := [[0x30, 0x00, 0x02], [0x20, 0x12, 0x34], [0x28, 0x3F, 0xFE]]

/-- After CS_LOW, after the transfer of PE and after that of the read. -/
def afterLow : State := { enabledState with link := { h2d := [], d2h := [0x01], up := true } }
def afterPe : State := completeFrame pePayload peReads afterLow
def afterRead (p : List Byte) : State := completeFrame p oneRead afterPe

/-- The parser over the run. -/
def parses (p : List Byte) : List Parse :=
  [.idle, .idle, .hdr 0 [], .hdr 1 [0x00], .hdr 2 [0x00, 0x04], .hdr 3 [0x00, 0x04, 0x00],
    .data 4 4 [], .data 4 4 [0xAC], .data 4 4 [0xAC, 0x53], .data 4 4 [0xAC, 0x53, 0x00],
    .idle, .hdr 0 [], .hdr 1 [0x00], .hdr 2 [0x00, 0x03], .hdr 3 [0x00, 0x03, 0x00],
    .data 3 1 [], .data 3 1 (p.take 1), .data 3 1 (p.take 2)]

/-- What the run has done by time k, its parser and its bytes aside. -/
def stage (p : List Byte) (k : Nat) : State :=
  if k = 0 then enabledState.setCsN 1 else if k < 10 then afterLow else if k < 18 then afterPe else afterRead p

/-- The run of one read. -/
def readRun (p : List Byte) (k : Nat) : State :=
  { ((stage p k).setParse ((parses p).getD k .idle)).setH2d ((readBytes p).drop k) with draws := k }

theorem readRun_early : ∀ p ∈ payloads, ∀ k < 18, readRun p (k + 1) = follow .dec (readRun p k) := by
  intro p hp k hk
  simp only [payloads, List.mem_cons, List.not_mem_nil, or_false] at hp
  rcases hp with rfl | rfl | rfl <;> interval_cases k <;> rfl

theorem parses_late (p : List Byte) (k : Nat) : (parses p).getD (18 + k) .idle = .idle :=
  List.getD_eq_default _ _ (by simp [parses])

theorem bytes_late : ∀ p ∈ payloads, ∀ k, (readBytes p).drop (18 + k) = [] := by
  intro p hp k
  refine List.drop_eq_nil_of_le (Nat.le_trans ?_ (Nat.le_add_right 18 k))
  revert p
  decide

/-- After its bytes the run stands still but for the draw counter. -/
theorem readRun_late (p : List Byte) (hp : p ∈ payloads) (k : Nat) :
    readRun p (18 + k) = { (afterRead p).setParse .idle with
      link := { (afterRead p).link with h2d := [] }, draws := 18 + k } := by
  have h0 : 18 + k ≠ 0 := by omega
  have h1 : ¬ 18 + k < 10 := by omega
  have h2 : ¬ 18 + k < 18 := by omega
  simp only [readRun, stage, h0, h1, h2, if_false, parses_late, bytes_late p hp, State.setH2d, State.setParse]

theorem seq_after : ∀ p ∈ payloads, (afterRead p).seq = State.reset.seq ∧ (afterRead p).turn = .dec ∧
    (afterRead p).dec.csN = 0 := by
  intro p hp
  simp only [payloads, List.mem_cons, List.not_mem_nil, or_false] at hp
  rcases hp with rfl | rfl | rfl <;> exact ⟨rfl, rfl, rfl⟩

theorem follow_idle {s : State} (ht : s.turn = .dec) (hh : s.link.h2d = []) (he : s.ended = false) :
    follow .dec s = { s with draws := s.draws + 1 } := by
  have : step s = .next (passTurn s) := by simp [step, he, agentTurn, ht, decTurn, hh, andThen]
  rw [follow_next this]
  simp [passTurn, ht.symm]

theorem readRun_isRun (p : List Byte) (hp : p ∈ payloads) : IsRun (readRun p) := by
  refine isRun_of_follow .dec fun k => ?_
  by_cases hk : k < 18
  · exact readRun_early p hp k hk
  · obtain ⟨j, rfl⟩ : ∃ j, k = 18 + j := ⟨k - 18, by omega⟩
    obtain ⟨hs, ht, -⟩ := seq_after p hp
    rw [Nat.add_assoc, readRun_late p hp j, readRun_late p hp (j + 1)]
    refine (follow_idle (s := { (afterRead p).setParse .idle with
      link := { (afterRead p).link with h2d := [] }, draws := 18 + j }) ht rfl ?_).symm
    simp [State.ended, State.sessionOver, State.setParse, hs, State.reset, Seq.sessionStart]

theorem readRun_seq (p : List Byte) (hp : p ∈ payloads) (k : Nat) : (readRun p k).seq = State.reset.seq := by
  show (stage p k).seq = _
  unfold stage
  split
  · rfl
  · split
    · rfl
    · split
      · rfl
      · exact (seq_after p hp).1

theorem readRun_csN (p : List Byte) (hp : p ∈ payloads) (k : Nat) :
    (readRun p k).dec.csN = if k = 0 then 1 else 0 := by
  show (stage p k).dec.csN = _
  unfold stage
  split
  · rfl
  · split
    · rfl
    · split
      · rfl
      · exact (seq_after p hp).2.2

theorem in_session (p : List Byte) (hp : p ∈ payloads) (k : Nat) : InSession (readRun p) 0 k := by
  refine ⟨Nat.zero_le _, fun j _ _ => ?_⟩
  rw [State.sessionOver, readRun_seq p hp j]
  rfl

theorem low_since (p : List Byte) (hp : p ∈ payloads) (k : Nat) :
    selectLowSince (readRun p) (k + 1) = some 0 := by
  induction k with
  | zero => rw [selectLowSince, readRun_csN p hp, readRun_csN p hp]; rfl
  | succ k ih => rw [selectLowSince, readRun_csN p hp, readRun_csN p hp, ih]; rfl

/-- The history at the end of the run: a group of PE, a group of fill bytes and the group of the read. -/
theorem history (p : List Byte) (hp : p ∈ payloads) : ∃ g0 g1 g2 : List Exchange,
    (∀ k, (readRun p k).bus.log = if k < 10 then [] else if k < 18 then g0 ++ g1 else g0 ++ g1 ++ g2) ∧
    g0.map Exchange.req = pePayload.map enabledState.request ∧
    g1.map Exchange.req = (List.replicate 4 Config.fillByte).map enabledState.request ∧
    g2.map Exchange.req = (p ++ [Config.fillByte]).map enabledState.request := by
  simp only [payloads, List.mem_cons, List.not_mem_nil, or_false] at hp
  refine ⟨afterPe.bus.log.take 4, afterPe.bus.log.drop 4, (afterRead p).bus.log.drop 8, fun k => ?_, rfl, rfl, ?_⟩
  · show (stage p k).bus.log = _
    unfold stage
    split
    · simp [*]; rfl
    · split
      · rfl
      · split
        · exact (List.take_append_drop 4 _).symm
        · rw [List.take_append_drop]
          rcases hp with rfl | rfl | rfl <;> rfl
  · rcases hp with rfl | rfl | rfl <;> rfl

/-- A word with one byte in both halves. -/
def both (v : Byte) : BitVec 16 := v ++ v

theorem both_low : ∀ v : Byte, (both v).extractLsb' 0 8 = v := by decide
theorem both_high : ∀ v : Byte, (both v).extractLsb' 8 8 = v := by decide

/-- A group whose last answer is v meets R506 where SIG_T and FLASH_T give v for its bytes. -/
theorem answers_of_bytes {sigT : Fin 3 → Byte} {flashT : WordAddr → BitVec 16} {grp : List Exchange}
    {x y z w v : Byte} (hm : grp.map Exchange.req = [x, y, z, w].map enabledState.request)
    (hv : grp.getLast?.map Exchange.miso = some v)
    (hs : x = 0x30 → y = 0x00 → ∀ i : Fin 3, z = BitVec.ofNat 8 i → sigT i = v)
    (hf : x ≠ 0x30 → flashT (recompose y z) = both v) : groupAnswers sigT flashT grp := by
  rintro a b c d rfl
  simp only [List.map_cons, List.map_nil, List.cons.injEq, and_true] at hm
  obtain ⟨ha, hb, hc, -⟩ := hm
  simp at hv
  rw [ha, hb, hc, hv]
  refine ⟨fun i h1 h2 h3 => (hs h1 h2 i h3).symm, fun h1 _ => ?_, fun h1 _ => ?_⟩
  · show v = (flashT (recompose y z)).extractLsb' 0 8
    rw [hf (by rintro rfl; exact absurd h1 (by decide)), both_low]
  · show v = (flashT (recompose y z)).extractLsb' 8 8
    rw [hf (by rintro rfl; exact absurd h1 (by decide)), both_high]

theorem length_of_map {g : List Exchange} {bs : List Byte} (h : g.map Exchange.req = bs.map enabledState.request) :
    g.length = bs.length := by simpa using congrArg List.length h

theorem properly_of_map {g : List Exchange} {bs : List Byte} (h : g.map Exchange.req = bs.map enabledState.request) :
    ∀ e ∈ g, Exchange.properly e := by
  intro e he
  have : e.req ∈ bs.map enabledState.request := h ▸ List.mem_map_of_mem he
  obtain ⟨b, -, hb⟩ := List.mem_map.1 this
  rw [Exchange.properly, ← hb]
  exact ⟨rfl, rfl, rfl⟩

/-- Whether an instruction is a flash read. -/
def readsFlash : Option Instr → Bool
  | some (.ispRdl _) => true
  | some (.ispRdh _) => true
  | _ => false

theorem not_reading : ∀ p ∈ payloads, ∀ k < 17, readsFlash (readRun p k).running = false := by
  intro p hp k hk
  simp only [payloads, List.mem_cons, List.not_mem_nil, or_false] at hp
  rcases hp with rfl | rfl | rfl <;> interval_cases k <;> rfl

/-- Only the last byte of the second frame is read as a flash read. -/
theorem running_read (p : List Byte) (hp : p ∈ payloads) (k : Nat)
    (h : readsFlash (readRun p k).running = true) : k = 17 := by
  by_contra hne
  by_cases hk : k < 18
  · rw [not_reading p hp k (by omega)] at h; cases h
  · obtain ⟨j, rfl⟩ : ∃ j, k = 18 + j := ⟨k - 18, by omega⟩
    have : (readRun p (18 + j)).running = none := by rw [readRun_late p hp j]; simp [State.running]
    rw [this] at h
    cases h

/-- The bytes of the address in a payload. -/
def address (p : List Byte) : WordAddr := recompose (p.getD 1 0) (p.getD 2 0)

theorem fill_address : ∀ p ∈ payloads, ∀ f : Byte, recompose f f ≠ address p := by decide

theorem last_answer {g : List Exchange} (h : g.length = 4) : ∃ v, g.getLast?.map Exchange.miso = some v := by
  match g, h with
  | [_, _, _, d], _ => exact ⟨d.miso, rfl⟩

/-- The groups of the run's history. -/
theorem groups {g0 g1 rest : List Exchange} (h0 : g0.length = 4) (h1 : g1.length = 4) (hr : rest.length ≤ 4)
    (g : Nat) : groupAt (g0 ++ g1 ++ rest) g =
      if g = 0 then g0 else if g = 1 then g1 else if g = 2 then rest else [] := by
  match g with
  | 0 => simp [groupAt, h0]
  | 1 => simp [groupAt, h0, h1]
  | 2 =>
    have : (g0 ++ g1).length = 8 := by simp [h0, h1]
    rw [groupAt, List.drop_append_of_le_length (by omega), List.drop_eq_nil_of_le (by omega)]
    simpa using hr
  | g + 3 =>
    rw [groupAt, List.drop_eq_nil_of_le (by simp; omega)]
    simp

theorem running_last :
    (readRun [0x30, 0x00, 0x02] 17).running = some (.ispRsig 2) ∧
    (readRun [0x20, 0x12, 0x34] 17).running = some (.ispRdl 0x1234) ∧
    (readRun [0x28, 0x3F, 0xFE] 17).running = some (.ispRdh 0x3FFE) := ⟨rfl, rfl, rfl⟩

theorem word_read (p : List Byte) (hp : p ∈ payloads) (w : WordAddr)
    (h : (readRun p 17).running = some (.ispRdl w) ∨ (readRun p 17).running = some (.ispRdh w)) :
    w = address p := by
  simp only [payloads, List.mem_cons, List.not_mem_nil, or_false] at hp
  rcases hp with rfl | rfl | rfl
  · rw [running_last.1] at h; rcases h with h | h <;> cases h
  · rw [running_last.2.1] at h; rcases h with h | h <;> cases h; rfl
  · rw [running_last.2.2] at h; rcases h with h | h <;> cases h; rfl

theorem payload_length : ∀ p ∈ payloads, (p ++ [Config.fillByte]).length = 4 := by
  intro p hp
  rw [List.length_append]
  revert p
  decide

theorem last_group (p : List Byte) (hp : p ∈ payloads) {g2 : List Exchange} {v2 : Byte}
    {flashT : WordAddr → BitVec 16} (h2 : g2.map Exchange.req = (p ++ [Config.fillByte]).map enabledState.request)
    (hv2 : g2.getLast?.map Exchange.miso = some v2) (hf : flashT (address p) = both v2) :
    groupAnswers (fun _ => v2) flashT g2 := by
  simp only [payloads, List.mem_cons, List.not_mem_nil, or_false] at hp
  rcases hp with rfl | rfl | rfl
  · exact answers_of_bytes h2 hv2 (fun _ _ _ _ => rfl) (fun h => absurd rfl h)
  · exact answers_of_bytes h2 hv2 (fun h => absurd h (by decide)) (fun _ => hf)
  · exact answers_of_bytes h2 hv2 (fun h => absurd h (by decide)) (fun _ => hf)

theorem fill_group {g1 : List Exchange} {v1 v2 : Byte} {flashT : WordAddr → BitVec 16}
    (h1 : g1.map Exchange.req = (List.replicate 4 Config.fillByte).map enabledState.request)
    (hv1 : g1.getLast?.map Exchange.miso = some v1)
    (hf : flashT (recompose Config.fillByte Config.fillByte) = both v1) : groupAnswers (fun _ => v2) flashT g1 :=
  answers_of_bytes (x := Config.fillByte) (y := Config.fillByte) (z := Config.fillByte) (w := Config.fillByte)
    h1 hv1 (fun h h' => absurd (h.symm.trans h') (by decide)) (fun _ => hf)

/-- The target of the run conforms, and its flash is stable, for the SIG_T and FLASH_T that say what it
answers. -/
theorem target_conforms (p : List Byte) (hp : p ∈ payloads) : ∃ sigT flashT,
    TargetConforms sigT flashT (readRun p) 0 ∧ FlashStable flashT (readRun p) 0 := by
  obtain ⟨g0, g1, g2, hlog, h0, h1, h2⟩ := history p hp
  have l0 : g0.length = 4 := length_of_map h0
  have l1 : g1.length = 4 := length_of_map h1
  have l2 : g2.length = 4 := (length_of_map h2).trans (payload_length p hp)
  obtain ⟨v1, hv1⟩ := last_answer l1
  obtain ⟨v2, hv2⟩ := last_answer l2
  generalize hF : (fun w => if w = address p then both v2 else both v1 : WordAddr → BitVec 16) = flashT
  have ha1 : groupAnswers (fun _ => v2) flashT g1 :=
    fill_group h1 hv1 (by rw [← hF]; exact if_neg (fill_address p hp _))
  have ha2 : groupAnswers (fun _ => v2) flashT g2 := last_group p hp h2 hv2 (by rw [← hF]; exact if_pos rfl)
  have hnil : groupAnswers (fun _ => v2) flashT [] := by
    intro a b c d h
    cases h
  have hall : ∀ rest, (rest = [] ∨ rest = g2) → ∀ g, g ≠ 0 →
      groupAnswers (fun _ => v2) flashT (groupAt (g0 ++ g1 ++ rest) g) := by
    intro rest hr g hg
    rw [groups l0 l1 (by rcases hr with rfl | rfl <;> simp [l2]), if_neg hg]
    split
    · exact ha1
    · split
      · rcases hr with rfl | rfl
        · exact hnil
        · exact ha2
      · exact hnil
  refine ⟨fun _ => v2, flashT, { properly := ?_, answers := ?_ }, ?_⟩
  · intro k i _ _ _ e he
    have he : e ∈ (readRun p (k + 1)).bus.log := List.mem_of_mem_drop he
    rw [hlog] at he
    have : e ∈ g0 ∨ e ∈ g1 ∨ e ∈ g2 := by
      split at he
      · cases he
      · split at he <;> simp only [List.mem_append] at he <;> tauto
    rcases this with h | h | h
    · exact properly_of_map h0 e h
    · exact properly_of_map h1 e h
    · exact properly_of_map h2 e h
  · intro k start g g' _ hs _ hlt _
    obtain rfl : start = 0 := by
      cases k with
      | zero => cases hs
      | succ k => rw [low_since p hp k] at hs; exact (Option.some.inj hs).symm
    rw [hlog, List.drop_zero]
    split
    · simpa [groupAt] using hnil
    · split
      · simpa using hall [] (.inl rfl) g (by omega)
      · exact hall g2 (.inr rfl) g (by omega)
  · have hlast : ∀ e ∈ (added (readRun p) 17).getLast?, e.miso = v2 := by
      intro e he
      rw [added, hlog (17 + 1), hlog 17, if_neg (by decide : ¬ 17 + 1 < 10), if_neg (by decide : ¬ 17 + 1 < 18),
        if_neg (by decide : ¬ 17 < 10), if_pos (by decide : 17 < 18), List.drop_left] at he
      rw [Option.mem_def.1 he] at hv2
      exact Option.some.inj hv2
    have hword : ∀ w, w = address p → flashT w = both v2 := fun w h => by rw [← hF]; exact if_pos h
    intro k w _
    constructor
    · intro h e he
      obtain rfl := running_read p hp k (by rw [h]; rfl)
      rw [hlast e he, hword w (word_read p hp w (.inl h)), both_low]
    · intro h e he
      obtain rfl := running_read p hp k (by rw [h]; rfl)
      rw [hlast e he, hword w (word_read p hp w (.inr h)), both_high]

/-- The premises of ConformingTargetAnswersReads, all together, for each of its three instructions. -/
theorem witness_Conforming (p : List Byte) (hp : p ∈ payloads) :
    IsRun (readRun p) ∧ InSession (readRun p) 0 17 ∧
    (∃ sigT flashT, TargetConforms sigT flashT (readRun p) 0 ∧ FlashStable flashT (readRun p) 0) ∧
    selectLowSince (readRun p) 17 = some 0 ∧ ((readRun p 17).bus.log.length - 0) % 4 = 0 ∧
    4 * 0 < (readRun p 17).bus.log.length - 0 ∧
    enablesProgramming (groupAt ((readRun p 17).bus.log.drop 0) 0) := by
  have hl : (readRun p 17).bus.log = afterPe.bus.log := rfl
  rw [hl]
  exact ⟨readRun_isRun p hp, in_session p hp 17, target_conforms p hp, low_since p hp 16, rfl, by decide,
    _, _, _, _, rfl, rfl, rfl⟩
theorem witness_Conforming_instruction :
    (∃ n : Fin 3, (readRun [0x30, 0x00, 0x02] 17).running = some (.ispRsig (BitVec.ofNat 2 n))) ∧
    (∃ w, (readRun [0x20, 0x12, 0x34] 17).running = some (.ispRdl w) ∧ ∀ n, Instr.ispRdl w ≠ .ispRsig n) ∧
    ∃ w, (readRun [0x28, 0x3F, 0xFE] 17).running = some (.ispRdh w) ∧ ∀ n, Instr.ispRdh w ≠ .ispRsig n :=
  ⟨⟨2, running_last.1⟩, ⟨_, running_last.2.1, fun _ h => by cases h⟩, _, running_last.2.2, fun _ h => by cases h⟩

/-! ### Witnesses: what the decoder never does -/

theorem witness_InstructionsLeave : nextIs (exec .bEntry (dec .bbio .idle)) (fun _ => true) = true := by decide
theorem witness_SpiRegisters_csN :
    nextIs (exec .sCsLow (dec .spi .idle)) (fun t => t.dec.csN != (dec .spi .idle).dec.csN) = true := by decide
theorem witness_SpiRegisters_cfg :
    nextIs (exec (.sCfg 1 0 0 0) (dec .spi .idle)) (fun t => t.dec.cfgEn != (dec .spi .idle).dec.cfgEn) = true := by
  decide
theorem witness_SpiRegisters_speed :
    nextIs (exec (.sSpeed 0) (dec .spi .idle)) (fun t => t.dec.speedSel != (dec .spi .idle).dec.speedSel) = true := by
  decide
theorem witness_SpiRegisters_run :
    nextIs (exec .bResetTerm ((dec .bbio .idle).setEntryRun 5)) (fun t => t.dec.entryRun != 5) = true := by decide
theorem witness_SpiRegisters_bus :
    nextIs (exec .ispPe (dec .spi .idle)) (fun t => t.bus.log.length != (dec .spi .idle).bus.log.length) = true := by
  decide
theorem witness_ModeTransitions :
    nextIs (consume 0x0F (dec .terminal .idle)) (fun _ => true) = true ∧
    nextIs (consume 0x01 (dec .bbio .idle)) (fun _ => true) = true ∧
    nextIs (consume 0x00 (dec .spi .idle)) (fun _ => true) = true ∧
    nextIs (consume 0x00 (dec .spi (.hdr 0 []))) (fun _ => true) = true ∧
    nextIs (consume 0x01 (dec .desync .idle)) (fun _ => true) = true := by decide
theorem witness_ExitSequence :
    DecStartsKnown (dec .terminal .idle) ∧ DecStartsKnown (dec .bbio .idle) ∧ DecStartsKnown (dec .spi .idle) := by
  unfold DecStartsKnown; decide
theorem witness_EntryRun :
    (dec .terminal .idle).dec.mode = .terminal ∧ (dec .terminal .idle).dec.entryRun + 1 ≤ Config.entryThreshold ∧ 0 < 1 :=
  ⟨rfl, Nat.succ_le_succ (Nat.zero_le _), by decide⟩

/-! ### Witnesses: steps, sessions and the sequencer -/

theorem witness_NextSession :
    let s : State := { State.reset.goto .doneOk with sessions := [cfg 2] }
    let u : State := { State.reset.goto .doneErr with sessions := [cfg 2] }
    (s.seq.pc = .doneOk ∧ s.sessions = cfg 2 :: []) ∧ u.seq.pc = .doneErr ∧ u.sessions = cfg 2 :: [] :=
  ⟨⟨rfl, rfl⟩, rfl, rfl⟩
theorem witness_StepRuns :
    let s := (dec .spi .idle).setH2d [0x02]
    s.turn = .dec ∧ s.link.h2d = 0x02 :: [] ∧ decodeLink s.dec.mode s.dec.parse 0x02 = .sCsLow := by decide
theorem witness_StepRuns_idle :
    let s : State := { State.reset.goto .doneOk with turn := .dec, sessions := [cfg 2] }
    ((dec .spi .idle).turn = .dec ∧ (dec .spi .idle).link.h2d = [] ∧ (dec .spi .idle).ended = false) ∧
    s.turn = .dec ∧ s.link.h2d = [] ∧ s.ended = false := by decide
theorem witness_StepOfTheOthers :
    (State.reset.turn = .seq ∧ State.reset.ended = false) ∧
    (({ State.reset with turn := .link } : State).turn = .link ∧ ({ State.reset with turn := .link } : State).ended = false) ∧
    (State.reset.goto .doneOk).ended = true := by decide
theorem witness_LinkFalls :
    let s : State := { dec .spi .idle with turn := .link }
    nextIs (step s) (fun t => !t.link.up) = true ∧ s.link.up = true := by decide
theorem witness_SessionStartAndOpen :
    State.reset.seq.pc = .idle ∧ (State.reset.goto .opening).seq.pc = .opening ∧
    (State.reset.goto .opening).seq.linkOpen = false ∧ (State.reset.goto .opening).seq.err = none := by decide
theorem witness_Control_phases :
    (seq 2 .busSel .start []).seq.control = some (.sBusSel, 0x01, [0x53, 0x50, 0x49, 0x31], .cfg) ∧
    (seq 2 .cfg .start []).seq.control = some (.sCfg, 0x88, [0x01], .speed) ∧
    (seq 2 .speed .start []).seq.control = some (.sSpeed, 0x60, [0x01], .csLow) ∧
    (seq 2 .csLow .start []).seq.control = some (.sCsLow, 0x02, [0x01], .pe) ∧
    (seq 2 .csHigh .start []).seq.control = some (.sCsHigh, 0x03, [0x01], .exit) :=
  ⟨rfl, rfl, rfl, rfl, rfl⟩
theorem witness_Control_points :
    (seq 2 .busSel .start []).seq.point = .start ∧
    (let s := seq 2 .busSel .awaitAck [0x53, 0x50, 0x49, 0x31]; s.seq.point = .awaitAck ∧ s.link.up = true ∧ 4 ≤ s.link.d2h.length) ∧
    (let s := seq 2 .busSel .awaitAck [0x53, 0x50, 0x49]; s.seq.point = .awaitAck ∧ s.link.up = true ∧ s.link.d2h.length < 4) ∧
    (let s := (seq 2 .busSel .awaitAck []).linkDrop; s.seq.point = .awaitAck ∧ s.link.up = false) := by decide
theorem witness_Framed_phases :
    (seq 2 .pe .start []).seq.framed = some (.sPe, [0x04, 0x00, 0x04, 0x00, 0x04, 0xAC, 0x53, 0x00, 0x00], 4) ∧
    ((seq 2 .sig .start []).setSigIdx 2).seq.framed =
      some (.sSig 2, [0x04, 0x00, 0x03, 0x00, 0x01, 0x30, 0x00, 0x02], 1) ∧
    ((seq 16384 .rdl .start []).setAddr 0x3FFF).seq.framed =
      some (.sRdl 0x3FFF, [0x04, 0x00, 0x03, 0x00, 0x01, 0x20, 0x3F, 0xFF], 1) ∧
    ((seq 16384 .rdh .start []).setAddr 0).seq.framed =
      some (.sRdh 0, [0x04, 0x00, 0x03, 0x00, 0x01, 0x28, 0x00, 0x00], 1) := by decide
theorem witness_Framed_points :
    (seq 2 .pe .start []).seq.point = .start ∧
    (let s := seq 2 .pe .awaitAck [0x01]; s.seq.point = .awaitAck ∧ s.link.up = true ∧ s.link.d2h = 0x01 :: []) ∧
    (let s := seq 2 .pe .awaitAck []; s.seq.point = .awaitAck ∧ s.link.up = true ∧ s.link.d2h = []) ∧
    (let s := seq 2 .pe (.awaitReply [0x01]) [0x00, 0x00, 0x00]; s.seq.point = .awaitReply [0x01] ∧ s.link.up = true ∧ s.link.d2h.length < 4) ∧
    (let s := (seq 2 .pe .awaitAck []).linkDrop; s.seq.point ≠ .start ∧ s.link.up = false) := by decide
theorem witness_EntryHandshake :
    (seq 2 .entry .start []).seq.pc = .entry ∧ (seq 2 .entry .start []).seq.point = .start ∧
    ((seq 2 .entry .awaitAck []).linkDrop.seq.point = .awaitAck ∧ (seq 2 .entry .awaitAck []).linkDrop.link.up = false) ∧
    (let s := seq 2 .entry .awaitAck [0x42, 0x42, 0x49, 0x4F, 0x31]; s.seq.point = .awaitAck ∧ s.link.up = true ∧ 5 ≤ s.link.d2h.length) ∧
    (let s := seq 2 .entry .awaitAck [0x42, 0x42, 0x49, 0x4F]; s.seq.point = .awaitAck ∧ s.link.up = true ∧ s.link.d2h.length < 5) := by decide
theorem witness_ProgramEnableReply :
    let s := seq 2 .pe (.awaitReply [0x01]) [0xDE, 0xAD, 0xBE, 0xEF]
    s.seq.pc = .pe ∧ s.seq.point = .awaitReply [0x01] ∧ s.link.up = true ∧
      s.link.d2h = 0xDE :: 0xAD :: 0xBE :: 0xEF :: [] := by decide
theorem witness_SignatureByte :
    let s := seq 2 .sig (.awaitReply [0x01]) [0x1E]
    let u := (seq 0 .sig (.awaitReply [0x01]) [0x0F]).setSigIdx 2
    (s.seq.pc = .sig ∧ s.seq.point = .awaitReply [0x01] ∧ s.seq.sigIdx.val = (0 : Fin 3).val ∧ s.link.up = true ∧
      s.link.d2h = 0x1E :: []) ∧
    u.seq.pc = .sig ∧ u.seq.point = .awaitReply [0x01] ∧ u.seq.sigIdx.val = (2 : Fin 3).val ∧ u.link.up = true ∧
      u.link.d2h = 0x0F :: [] := by decide
theorem witness_FlashBytes :
    let s := seq 2 .rdl (.awaitReply [0x01]) [0x77]
    let u := (seq 16384 .rdh (.awaitReply [0x01]) [0x77]).setAddr 0x3FFF
    ((s.seq.pc = .rdl ∨ s.seq.pc = .rdh) ∧ s.seq.point = .awaitReply [0x01] ∧ s.link.up = true ∧
      s.link.d2h = 0x77 :: []) ∧
    (u.seq.pc = .rdl ∨ u.seq.pc = .rdh) ∧ u.seq.point = .awaitReply [0x01] ∧ u.link.up = true ∧
      u.link.d2h = 0x77 :: [] := by decide
theorem witness_FlashReadEndToEnd :
    let s : State := { seq 2 .rdl .start [] with dec := enabledState.dec }
    let u : State := { seq 2 .rdh .start [] with dec := enabledState.dec }
    ((s.seq.pc = .rdl ∨ s.seq.pc = .rdh) ∧ s.seq.point = .start ∧ s.link.up = true ∧ s.link.h2d = [] ∧
      s.link.d2h = [] ∧ s.dec.mode = .spi ∧ s.dec.parse = .idle) ∧
    (u.seq.pc = .rdl ∨ u.seq.pc = .rdh) ∧ u.seq.point = .start ∧ u.link.up = true ∧ u.link.h2d = [] ∧
      u.link.d2h = [] ∧ u.dec.mode = .spi ∧ u.dec.parse = .idle := by decide
theorem witness_ExitAndClose :
    (seq 2 .exit .start []).seq.pc = .exit ∧ (seq 2 .close .start []).seq.pc = .close ∧
    (State.reset.goto .doneOk).seq.pc = .doneOk ∧ (State.reset.goto .doneOk).sessions = [] := by decide
theorem witness_SequencerLeaves :
    nextIs (seqTurn ((seq 2 .exit .start []).recordErr (linkLostAt .sPe))) (fun _ => true) = true ∧
    ((seq 2 .exit .start []).recordErr (linkLostAt .sPe)).seq.err = some (linkLostAt .sPe) ∧
    (seq 2 .exit .start []).seq.pc ≠ .doneOk ∧ (seq 2 .exit .start []).seq.pc ≠ .doneErr := by decide
theorem witness_TraceDoesNotChange : nextIs (step State.reset) (fun _ => true) = true := by decide

/-! ### Witnesses: the invariant and the order of transactions -/

/-- The trace of a session up to the first word's low read, one entry attempt. -/
def traceToLow : List Event :=
  [.sessionStart (cfg 1), .txBegin .sEntry [0x00], .txBegin .sBusSel [0x01], .txBegin .sCfg [0x88],
   .txBegin .sSpeed [0x60], .txBegin .sCsLow [0x02],
   .txBegin .sPe [0x04, 0x00, 0x04, 0x00, 0x04, 0xAC, 0x53, 0x00, 0x00],
   .txBegin (.sSig 0) [0x04, 0x00, 0x03, 0x00, 0x01, 0x30, 0x00, 0x00],
   .txBegin (.sSig 1) [0x04, 0x00, 0x03, 0x00, 0x01, 0x30, 0x00, 0x01],
   .txBegin (.sSig 2) [0x04, 0x00, 0x03, 0x00, 0x01, 0x30, 0x00, 0x02],
   .txBegin (.sRdl 0) [0x04, 0x00, 0x03, 0x00, 0x01, 0x20, 0x00, 0x00]]

/-- SEQ in the middle of a one-word sweep: the low byte is stored, the high read is next. -/
def midSweep : State :=
  { State.reset with
    seq := { Seq.sessionStart (cfg 1) with
      pc := .rdh, attempt := 1, sigIdx := 3, peReply := some [0x00, 0x00, 0x00, 0x00]
      sigGot := #v[some 0x1E, some 0x95, some 0x0F], image := [(0, 0x77)], linkOpen := true, trace := traceToLow }
    link := { h2d := [], d2h := [], up := true }
    dec := enabledState.dec }

/-- SEQ at the end of that session. -/
def published : State :=
  { midSweep with
    seq := { midSweep.seq with
      pc := .doneOk, addr := 1, image := [(0, 0x77), (1, 0x66)], linkOpen := false, exitCount := 1
      output := some [0x77, 0x66] }
    link := { h2d := [], d2h := [], up := false } }

/-- SEQ after an open that failed. -/
def openFailed : State :=
  { State.reset with
    seq := { Seq.sessionStart (cfg 1) with pc := .doneErr, err := some (Err.of .openFailed .sOpen [] []) } }

theorem legal_one : (cfg 1).legal := ⟨rfl, rfl, rfl, rfl, rfl⟩

theorem dec_inv (s : State) (hm : s.dec.parse = .idle) (hr : s.dec.entryRun = 0) : DecInv s.dec where
  parseMode := fun h => absurd hm h
  header := fun _ _ h => by rw [hm] at h; cases h
  payload := fun _ _ _ h => by rw [hm] at h; cases h
  runBound := by rw [hr]; exact Nat.succ_pos _
  runMode := fun _ => hr

theorem witness_Inv_midSweep : Inv midSweep := by
  refine ⟨?_, dec_inv _ rfl rfl, (by intro c h; cases h), by decide⟩
  constructor
  case cfg => exact legal_one
  case sigVerified => intro _ i; revert i; decide
  case imageHigh => intro _; decide
  all_goals simp [midSweep, Seq.pointFits, Seq.swept, Phase.beforeSweep, Phase.linked, Seq.sessionStart, cfg]

theorem witness_Inv_published : Inv published ∧ published.seq.pc = .doneOk := by
  refine ⟨⟨?_, dec_inv _ rfl rfl, (by intro c h; cases h), by decide⟩, rfl⟩
  constructor
  case cfg => exact legal_one
  case sigVerified => intro _ i; revert i; decide
  case imageOffsets => decide
  case imageWhole => intro _; decide
  case output => intro _; decide
  all_goals simp [published, midSweep, Seq.pointFits, Phase.beforeSweep, Phase.linked, Seq.sessionStart, cfg]

theorem witness_Inv_openFailed : Inv openFailed ∧ openFailed.seq.pc = .doneErr := by
  refine ⟨⟨?_, dec_inv _ rfl rfl, (by intro c h; cases h), by decide⟩, rfl⟩
  constructor
  case cfg => exact legal_one
  all_goals simp [openFailed, Seq.pointFits, Seq.swept, Phase.beforeSweep, Phase.linked, Seq.sessionStart, Err.of,
    cfg]

theorem witness_Inv_step : nextIs (step midSweep) (fun _ => true) = true := by decide

theorem witness_TransactionOrder : TransactionOrder midSweep.seq := ⟨_, _, rfl, by decide⟩

/-- The trace of that session's end: the low read, the high read, chip-select off and the exit sequence. -/
def traceWhole : List Event :=
  traceToLow ++ [.txBegin (.sRdh 0) [0x04, 0x00, 0x03, 0x00, 0x01, 0x28, 0x00, 0x00], .txBegin .sCsHigh [0x03],
    .txBegin .sExit [0x00, 0x0F], .sessionEnd none]

theorem witness_ByteCount_done :
    let s : State := { published with seq := { published.seq with trace := traceWhole } }
    Inv s ∧ TransactionOrder s.seq ∧ s.seq.pc = .doneOk := by
  refine ⟨⟨?_, dec_inv _ rfl rfl, (by intro c h; cases h), by decide⟩, ?_, rfl⟩
  · obtain ⟨⟨h, -, -, -⟩, -⟩ := witness_Inv_published
    obtain ⟨h1, h2, h3, h4, h5, h6, h7, h8, h9, h10, h11, h12, h13, h14, h15, h16, h17, h18, h19, h20, h21, h22,
      h23, h24, h25, h26⟩ := h
    exact ⟨h1, h2, h3, h4, h5, h6, h7, h8, h9, h10, h11, h12, h13, h14, h15, h16, h17, h18, h19, h20, h21, h22,
      h23, h24, h25, h26⟩
  · show begun traceWhole = script (cfg 1) 1 ++ [txExit]
    decide

theorem witness_ByteCount_exit :
    let s : State := { midSweep with seq := { midSweep.seq with
      pc := .exit, addr := 1, image := [(0, 0x77), (1, 0x66)], trace := traceWhole.take 13 } }
    Inv s ∧ TransactionOrder s.seq ∧ s.seq.pc = .exit ∧ s.seq.err = none := by
  have hb : begun (traceWhole.take 13) = script (cfg 1) 1 := by decide
  refine ⟨⟨?_, dec_inv _ rfl rfl, (by intro c h; cases h), by decide⟩, ?_, rfl, rfl⟩
  · constructor
    case cfg => exact legal_one
    case sigVerified => intro _ i; revert i; decide
    case imageOffsets => decide
    case imageWhole => intro _; decide
    all_goals simp [midSweep, Seq.pointFits, Phase.beforeSweep, Phase.linked, Seq.sessionStart, cfg]
  · show begun (traceWhole.take 13) <+: script (cfg 1) 1 ∧ (_ → begun (traceWhole.take 13) = script (cfg 1) 1)
    rw [hb]
    exact ⟨List.prefix_refl _, fun _ => rfl⟩

/-! ### Witness: a fair run -/

/-- SEQ in the read of "SPI1" on a link that has been lost: it raises LINK_LOST, tears down and ends. -/
def lostRun : Nat → State
  | 0 => ((seq 1 .busSel .awaitAck []).setAttempt 1).linkDrop
  | k + 1 => follow .seq (lostRun k)

theorem lostRun_over (k : Nat) : lostRun (3 + k) = lostRun 3 := by
  induction k with
  | zero => rfl
  | succ k ih =>
    show follow .seq (lostRun (3 + k)) = _
    rw [ih]
    rfl

theorem lostRun_states : ∀ k < 4, (lostRun k).link.h2d = [] ∧ (lostRun k).turn = .seq ∧
    ((lostRun k).seq.point = .start ∨ k = 0) := by decide

theorem lostRun_all (k : Nat) : (lostRun k).link.h2d = [] ∧ (lostRun k).turn = .seq ∧
    ((lostRun k).seq.point = .start ∨ k = 0) := by
  by_cases hk : k < 4
  · exact lostRun_states k hk
  · obtain ⟨j, rfl⟩ : ∃ j, k = 3 + j := ⟨k - 3, by omega⟩
    rw [lostRun_over]
    have := lostRun_states 3 (by decide)
    exact ⟨this.1, this.2.1, .inl (this.2.2.resolve_right (by decide))⟩

theorem witness_Fair : IsRun lostRun ∧ Fair lostRun ∧ Inv (lostRun 0) := by
  refine ⟨isRun_of_follow .seq fun _ => rfl, ⟨?_, ?_, ?_⟩, ⟨?_, dec_inv _ rfl rfl, nofun, by decide⟩⟩
  · intro k h
    exact absurd (lostRun_all k).1 h
  · intro k h
    obtain rfl := (lostRun_all k).2.2.resolve_left h
    exact ⟨1, by decide, by decide⟩
  · intro k _ _
    exact ⟨k, Nat.le_refl k, (lostRun_all k).2.1⟩
  · constructor
    case cfg => exact legal_one
    all_goals simp [lostRun, State.linkDrop, State.setAttempt, seq, Seq.pointFits, Seq.swept, Phase.beforeSweep,
      Phase.linked, Seq.sessionStart, cfg]

end Sys2Proof.Tests
end

section
/-! PROOF. Everything a turn of SEQ can do, said once: `SeqStep` has one case for each way a phase can go on
(R552, R553, R559 to R574), and every next state of `seqTurn` is one of them. -/

namespace Sys2Proof.Machine

/-- A read took bytes off `link.d2h` and left d there (R124); k is the draw counter after it. -/
def State.took (s : State) (d : List Byte) (k : Nat) : State := { s.setD2h d with draws := k }

@[simp] theorem State.took_seq (s : State) (d : List Byte) (k : Nat) : (s.took d k).seq = s.seq := rfl
@[simp] theorem State.took_link_up (s : State) (d : List Byte) (k : Nat) : (s.took d k).link.up = s.link.up := rfl
@[simp] theorem State.took_dec (s : State) (d : List Byte) (k : Nat) : (s.took d k).dec = s.dec := rfl
@[simp] theorem State.took_bus (s : State) (d : List Byte) (k : Nat) : (s.took d k).bus = s.bus := rfl
@[simp] theorem State.took_turn (s : State) (d : List Byte) (k : Nat) : (s.took d k).turn = s.turn := rfl
@[simp] theorem State.took_sessions (s : State) (d : List Byte) (k : Nat) : (s.took d k).sessions = s.sessions := rfl

/-- The transaction the present phase begins and whose replies it reads (R561 to R571). -/
def Seq.transaction (q : Seq) : Option Tx :=
  match q.pc with
  | .entry => some (.sEntry, [Param.entry])
  | .busSel => some (.sBusSel, [Param.spiSelect])
  | .cfg => some (.sCfg, [cfgByte q.cfg.cfgEn q.cfg.cfgCpol q.cfg.cfgCpha q.cfg.cfgDevsel])
  | .speed => some (.sSpeed, [speedByte q.cfg.speedSel])
  | .csLow => some (.sCsLow, [Param.csLow])
  | .pe => some (.sPe, frame pePayload peReads)
  | .sig =>
    if q.sigIdx.val < 3 then
      some (.sSig q.sigIdx, frame (rsigPayload (BitVec.ofNat 8 q.sigIdx)) oneRead)
    else none
  | .rdl => some (.sRdl q.addr.toNat, frame (flashPayload rdlOpcode q.addr) oneRead)
  | .rdh => some (.sRdh q.addr.toNat, frame (flashPayload rdhOpcode q.addr) oneRead)
  | .csHigh => some (.sCsHigh, [Param.csHigh])
  | .idle | .opening | .exit | .close | .doneOk | .doneErr => none

/-- `seq.attempt` once the present phase has begun its transaction: P_ENTRY counts it (R561). -/
def Seq.attempts (q : Seq) : Nat := if q.pc = .entry then q.attempt + 1 else q.attempt

/-- Everything a turn of SEQ can do, from the state s. -/
inductive SeqStep (s : State) : State → Prop
  /-- P_IDLE (R559) -/
  | starts : s.seq.pc = .idle → SeqStep s ((s.emit (.sessionStart s.seq.cfg)).goto .opening)
  /-- P_OPEN, the open fails (R560) -/
  | openFails : s.seq.pc = .opening → SeqStep s (s.tick.raise (Err.of .openFailed .sOpen [] []))
  /-- P_OPEN, the open succeeds (R560) -/
  | opens : s.seq.pc = .opening → SeqStep s ((s.tick.linkOpened.setLinkOpen true).goto .entry)
  /-- a transaction begins: its event and its write (R552, R553, R561) -/
  | begins {step : StepId} {bs : List Byte} : s.seq.transaction = some (step, bs) → s.seq.point = .start →
      s.link.up = true →
      SeqStep s ((((s.setAttempt s.seq.attempts).emit (.txBegin step bs)).pushH2d bs).setPoint .awaitAck)
  /-- a transaction begins on a link that is down (R124) -/
  | beginsLost {step : StepId} {bs : List Byte} : s.seq.transaction = some (step, bs) → s.seq.point = .start →
      s.link.up = false →
      SeqStep s (((s.setAttempt s.seq.attempts).emit (.txBegin step bs)).raise (linkLostAt step))
  /-- a read finds the link down (R124) -/
  | readsLost {step : StepId} {bs : List Byte} : s.seq.transaction = some (step, bs) → s.seq.point ≠ .start →
      s.link.up = false → SeqStep s (s.raise (linkLostAt step))
  /-- a read is pending (R124) -/
  | holds {step : StepId} {bs : List Byte} : s.seq.transaction = some (step, bs) → s.seq.point ≠ .start →
      s.link.up = true → SeqStep s s.tick
  /-- a reply is short or wrong, or the last entry attempt has failed (R552, R553, R561) -/
  | replyFails {step : StepId} {bs r d : List Byte} {k : Nat} {e : Err} :
      s.seq.transaction = some (step, bs) → s.seq.point ≠ .start → e.kind = .protocol → e.kind = e.sub.kind →
      SeqStep s (((s.took d k).emit (.txEnd step r)).raise e)
  /-- a framed transaction is acknowledged (R553) -/
  | acknowledged {d : List Byte} {k : Nat} : s.seq.framed ≠ none → s.seq.point = .awaitAck →
      SeqStep s ((s.took d k).setPoint (.awaitReply Param.ack))
  /-- P_ENTRY, a further attempt (R561) -/
  | entersAgain {r d : List Byte} {k : Nat} : s.seq.pc = .entry → s.seq.attempt < s.seq.cfg.maxEntryAttempts →
      SeqStep s (((s.took d k).emit (.txEnd .sEntry r)).goto .entry)
  /-- P_ENTRY, the attempt succeeds (R561) -/
  | enters {d : List Byte} {k : Nat} : s.seq.pc = .entry →
      SeqStep s (((s.took d k).emit (.txEnd .sEntry Param.ackBbio)).goto .busSel)
  /-- a control transaction succeeds (R552, R562 to R565, R571) -/
  | controls {step : StepId} {c : Byte} {expected d : List Byte} {next : Phase} {k : Nat} :
      s.seq.control = some (step, c, expected, next) →
      SeqStep s (((s.took d k).emit (.txEnd step expected)).goto next)
  /-- P_PE (R566) -/
  | enables {a r d : List Byte} {k : Nat} : s.seq.pc = .pe → s.seq.point = .awaitReply a → r.length = 4 →
      SeqStep s ((((s.took d k).emit (.txEnd .sPe (a ++ r))).setPeReply r).goto .sig)
  /-- P_SIG (R567) -/
  | signs {i : Fin 3} {b : Byte} {a d : List Byte} {k : Nat} : s.seq.pc = .sig → s.seq.sigIdx.val = i.val →
      s.seq.point = .awaitReply a →
      SeqStep s (checkSig i b ((s.took d k).emit (.txEnd (.sSig i) (a ++ [b]))))
  /-- P_RDL (R568) -/
  | readsLow {b : Byte} {a d : List Byte} {k : Nat} : s.seq.pc = .rdl → s.seq.point = .awaitReply a →
      SeqStep s ((((s.took d k).emit (.txEnd (.sRdl s.seq.addr.toNat) (a ++ [b]))).imgAppend b).goto .rdh)
  /-- P_RDH (R569, R570) -/
  | readsHigh {b : Byte} {a d : List Byte} {k : Nat} : s.seq.pc = .rdh → s.seq.point = .awaitReply a →
      SeqStep s (advanceSweep
        ((((s.took d k).emit (.txEnd (.sRdh s.seq.addr.toNat) (a ++ [b]))).imgAppend b).setAddr (s.seq.addr + 1)))
  /-- P_EXIT (R572) -/
  | exits : s.seq.pc = .exit → s.link.up = true →
      SeqStep s ((((((s.setExitCount (s.seq.exitCount + 1)).emit (.txBegin .sExit Param.exitSequence)).pushH2d
        Param.exitSequence).emit (.txEnd .sExit []))).goto .close)
  /-- P_EXIT on a link that is down (R572, R124) -/
  | exitsLost : s.seq.pc = .exit → s.link.up = false →
      SeqStep s (((s.setExitCount (s.seq.exitCount + 1)).emit (.txBegin .sExit Param.exitSequence)).raise
        (linkLostAt .sExit))
  /-- P_CLOSE of a run without an error (R573) -/
  | publishes : s.seq.pc = .close → s.seq.err = none →
      SeqStep s ((((s.linkClose.setLinkOpen false).setOutput s.seq.image.bytes).emit (.sessionEnd none)).goto .doneOk)
  /-- P_CLOSE of a run with an error (R573) -/
  | closes {e : Err} : s.seq.pc = .close → s.seq.err = some e →
      SeqStep s (((s.linkClose.setLinkOpen false).emit (.sessionEnd (some e))).goto .doneErr)
  /-- a final phase with no session asked for (R574) -/
  | rests : s.sessionOver = true → s.sessions = [] → SeqStep s s
  /-- a final phase with a session asked for (R802) -/
  | restarts {c : SessionCfg} {rest : List SessionCfg} : s.sessionOver = true → s.sessions = c :: rest →
      SeqStep s ({ s with sessions := rest }.startSession c)

/-! ### The transaction primitives -/

section
variable {s t : State} {step : StepId} {bs : List Byte}

theorem beginTx_step (hw : s.seq.transaction = some (step, bs)) (hp : s.seq.point = .start) :
    SeqStep s (beginTx step bs (s.setAttempt s.seq.attempts)) := by
  rcases linkWrite_cases step bs ((s.setAttempt s.seq.attempts).emit (.txBegin step bs))
    (fun s => s.setPoint .awaitAck) with ⟨hu, e⟩ | ⟨hu, e⟩ <;> rw [beginTx, e]
  · exact .begins hw hp hu
  · exact .beginsLost hw hp hu

/-- Outside P_ENTRY a transaction that begins counts no attempt. -/
theorem beginTx_step_of_not_entry (hw : s.seq.transaction = some (step, bs)) (hp : s.seq.point = .start)
    (hpc : s.seq.pc ≠ .entry) : SeqStep s (beginTx step bs s) := by
  have h := beginTx_step hw hp
  rwa [Seq.attempts, if_neg hpc] at h

theorem onRead_step {n : Nat} {rest : List Byte → State → State} (hw : s.seq.transaction = some (step, bs))
    (hp : s.seq.point ≠ .start) (hrest : ∀ r d k, r.length ≤ n → SeqStep s (rest r (s.took d k))) :
    SeqStep s (onRead step n s rest) := by
  rcases onRead_cases step n s rest with ⟨hu, e⟩ | ⟨hu, e⟩ | ⟨r, d, k, _, hr, _, e⟩ <;> rw [e]
  · exact .readsLost hw hp hu
  · exact .holds hw hp hu
  · exact hrest r d k hr

theorem control_transaction {q : Seq} {c : Byte} {expected : List Byte} {next : Phase}
    (h : q.control = some (step, c, expected, next)) : q.transaction = some (step, [c]) ∧ q.pc ≠ .entry := by
  cases hpc : q.pc <;> simp only [Seq.control, hpc] at h <;> cases h <;> simp [Seq.transaction, hpc] <;> rfl

theorem ctrl_step {c : Byte} {expected : List Byte} {next : Phase}
    (hc : s.seq.control = some (step, c, expected, next)) (ht : ctrl step c expected next s = .next t) :
    SeqStep s t := by
  obtain ⟨hw, hpc⟩ := control_transaction hc
  unfold ctrl at ht
  split at ht <;> rename_i hp <;> cases ht
  · exact beginTx_step_of_not_entry hw hp hpc
  · refine onRead_step hw (by simp [hp]) fun r d k _ => ?_
    unfold endCtrl
    split <;> rename_i hr
    · obtain ⟨hs, hk, _⟩ := checkReply_some hr
      exact .replyFails hw (by simp [hp]) hk (by rcases hs with hs | hs <;> rw [hk, hs] <;> rfl)
    · rw [checkReply_none.mp hr]
      exact .controls hc

theorem framed_not_entry {q : Seq} (h : q.framed ≠ none) : q.pc ≠ .entry := by
  intro hpc
  simp [Seq.framed, hpc] at h

theorem xfer_step {p : List Byte} {m : Count} {rest : List Byte → State → State} (hf : s.seq.framed ≠ none)
    (hw : s.seq.transaction = some (step, frame p m))
    (hrest : ∀ a r d k, s.seq.point = .awaitReply a → r.length = m.toNat →
      SeqStep s (rest r ((s.took d k).emit (.txEnd step (a ++ r)))))
    (ht : xfer step p m rest s = .next t) : SeqStep s t := by
  unfold xfer at ht
  split at ht <;> rename_i hp <;> cases ht
  · exact beginTx_step_of_not_entry hw hp (framed_not_entry hf)
  · refine onRead_step hw (by simp [hp]) fun r d k _ => ?_
    unfold xferAck
    split <;> rename_i hr
    · obtain ⟨hs, hk, _⟩ := checkReply_some hr
      exact .replyFails hw (by simp [hp]) hk (by rcases hs with hs | hs <;> rw [hk, hs] <;> rfl)
    · rw [checkReply_none.mp hr]
      exact .acknowledged hf hp
  · refine onRead_step hw (by simp [hp]) fun r d k hr => ?_
    unfold xferReply
    split
    · exact .replyFails hw (by simp [hp]) rfl rfl
    · exact hrest _ r d k hp (by omega)

end

/-! ### The phases -/

section
variable {s t : State}

theorem endEntry_step {r d : List Byte} {k : Nat} (hpc : s.seq.pc = .entry) (hp : s.seq.point ≠ .start) :
    SeqStep s (endEntry r (s.took d k)) := by
  simp only [endEntry]
  split
  · subst r; exact .enters hpc
  · split <;> rename_i ha
    · exact .entersAgain hpc ha
    · exact .replyFails (bs := [Param.entry]) (by simp [Seq.transaction, hpc]) hp rfl rfl

theorem phaseEntry_step (hpc : s.seq.pc = .entry) (ht : phaseEntry s = .next t) : SeqStep s t := by
  have hw : s.seq.transaction = some (.sEntry, [Param.entry]) := by simp [Seq.transaction, hpc]
  unfold phaseEntry at ht
  split at ht <;> rename_i hp <;> cases ht
  · simpa [Seq.attempts, hpc] using beginTx_step hw hp
  · exact onRead_step hw (by simp [hp]) fun _ _ _ _ => endEntry_step hpc (by simp [hp])

theorem phasePe_step (hpc : s.seq.pc = .pe) (ht : phasePe s = .next t) : SeqStep s t :=
  xfer_step (by simp [Seq.framed, hpc]) (by simp [Seq.transaction, hpc]) (fun _ _ _ _ hp hr => .enables hpc hp hr) ht

/-- A reply of one byte, which RSIG, RDL and RDH read (R312). -/
theorem oneRead_reply {r : List Byte} (h : r.length = oneRead.toNat) : ∃ b, r = [b] :=
  List.length_eq_one_iff.mp h

theorem phaseSig_step (hpc : s.seq.pc = .sig) (ht : phaseSig s = .next t) : SeqStep s t := by
  unfold phaseSig at ht
  split at ht
  case isTrue hi =>
    refine xfer_step (by simp [Seq.framed, hpc, hi]) (by simp [Seq.transaction, hpc, hi]) (fun a r d k hp hr => ?_) ht
    obtain ⟨b, rfl⟩ := oneRead_reply hr
    exact .signs (i := ⟨s.seq.sigIdx, hi⟩) hpc rfl hp
  case isFalse => cases ht

theorem phaseRdl_step (hpc : s.seq.pc = .rdl) (ht : phaseRdl s = .next t) : SeqStep s t := by
  refine xfer_step (by simp [Seq.framed, hpc]) (by simp [Seq.transaction, hpc]) (fun a r d k hp hr => ?_) ht
  obtain ⟨b, rfl⟩ := oneRead_reply hr
  exact .readsLow hpc hp

theorem phaseRdh_step (hpc : s.seq.pc = .rdh) (ht : phaseRdh s = .next t) : SeqStep s t := by
  refine xfer_step (by simp [Seq.framed, hpc]) (by simp [Seq.transaction, hpc]) (fun a r d k hp hr => ?_) ht
  obtain ⟨b, rfl⟩ := oneRead_reply hr
  exact .readsHigh hpc hp

theorem phaseOpen_step (hpc : s.seq.pc = .opening) (ht : phaseOpen s = .next t) : SeqStep s t := by
  cases ht
  split
  · exact .openFails hpc
  · exact .opens hpc

theorem phaseExit_step (hpc : s.seq.pc = .exit) (ht : phaseExit s = .next t) : SeqStep s t := by
  cases ht
  rcases linkWrite_cases .sExit Param.exitSequence
    ((s.setExitCount (s.seq.exitCount + 1)).emit (.txBegin .sExit Param.exitSequence))
    (fun u => (u.emit (.txEnd .sExit [])).goto .close) with ⟨hu, e⟩ | ⟨hu, e⟩ <;> rw [e]
  · exact .exits hpc hu
  · exact .exitsLost hpc hu

theorem phaseClose_step (hpc : s.seq.pc = .close) (ht : phaseClose s = .next t) : SeqStep s t := by
  unfold phaseClose at ht
  cases he : s.seq.err <;> simp only [he] at ht <;> cases ht
  · exact .publishes hpc he
  · exact .closes hpc he

theorem phaseDone_step (ho : s.sessionOver = true) (ht : phaseDone s = .next t) : SeqStep s t := by
  unfold phaseDone at ht
  split at ht <;> rename_i hs <;> cases ht
  · exact .rests ho hs
  · exact .restarts ho hs

/-- Every next state of SEQ's turn is one of the cases of `SeqStep`. -/
theorem seqTurn_step (ht : seqTurn s = .next t) : SeqStep s t := by
  unfold seqTurn at ht
  cases hpc : s.seq.pc <;> rw [hpc] at ht
  case idle => cases ht; exact .starts hpc
  case opening => exact phaseOpen_step hpc ht
  case entry => exact phaseEntry_step hpc ht
  case pe => exact phasePe_step hpc ht
  case sig => exact phaseSig_step hpc ht
  case rdl => exact phaseRdl_step hpc ht
  case rdh => exact phaseRdh_step hpc ht
  case exit => exact phaseExit_step hpc ht
  case close => exact phaseClose_step hpc ht
  case doneOk | doneErr => exact phaseDone_step (by simp [State.sessionOver, hpc]) ht
  case busSel | cfg | speed | csLow | csHigh => exact ctrl_step (by simp only [Seq.control, hpc]; rfl) ht

end

end Sys2Proof.Machine
end

section
/-! PROOF. SEQ's part of the invariant. It says something of every phase (`Seq.Core`), of the phases in which
a session has neither failed nor begun to end (`Seq.Clean`), and then of each phase by itself; for each phase one
lemma builds the invariant there, and the step lemma is a short use of it in each case of `SeqStep`. -/

namespace Sys2Proof.Machine

variable {q : Seq} {s t u : State}

/-- What the invariant says of SEQ whatever its phase. -/
def Seq.Core (q : Seq) : Prop :=
  q.cfg.legal ∧ q.image.map Prod.fst = List.range q.image.length ∧
  q.image.length ≤ 2 * q.cfg.addrSpaceSize.val ∧ q.attempt ≤ q.cfg.maxEntryAttempts ∧
  q.addr.toNat ≤ q.cfg.addrSpaceSize.val ∧ ∀ r, q.peReply = some r → r.length = 4

/-- Nothing of a session's end has happened: no error, no output, no mode-exit sequence. -/
def Seq.Clean (q : Seq) : Prop := q.err = none ∧ q.output = none ∧ q.exitCount = 0

/-- All three signature bytes are recorded and are the expected ones (R577 c). -/
def Seq.Verified (q : Seq) : Prop := ∀ i : Fin 3, q.sigGot[i] = some q.cfg.expectedSig[i]

/-! ### What the invariant gives -/

theorem SeqInv.core (h : SeqInv q) : q.Core :=
  ⟨h.cfg, h.imageOffsets, h.imageBound, h.attemptBound, h.addrBound, h.peLength⟩

theorem SeqInv.clean (h : SeqInv q) (hx : q.pc ≠ .exit) (hc : q.pc ≠ .close) (hk : q.pc ≠ .doneOk)
    (he : q.pc ≠ .doneErr) : q.Clean :=
  ⟨h.noErr hx hc he, h.noOutput hk, by simpa [hc, hk, he] using h.exitOnce⟩

theorem Seq.transaction_linked (h : q.transaction ≠ none) : q.pc.linked ∧ q.pc ≠ .exit ∧ q.pc ≠ .close := by
  cases hpc : q.pc <;> simp [Seq.transaction, hpc] at h <;> simp [Phase.linked]

theorem SeqInv.clean_of_transaction (h : SeqInv q) (ht : q.transaction ≠ none) : q.Clean := by
  obtain ⟨⟨-, -, hk, he⟩, hx, hc⟩ := Seq.transaction_linked ht
  exact h.clean hx hc hk he

theorem SeqInv.open_of_transaction (h : SeqInv q) (ht : q.transaction ≠ none) : q.linkOpen = true :=
  h.linkOpen.mpr (Seq.transaction_linked ht).1

theorem Phase.beforeSweep_ne {p : Phase} (h : p.beforeSweep) :
    p ≠ .rdl ∧ p ≠ .rdh ∧ p ≠ .csHigh ∧ p ≠ .exit ∧ p ≠ .close ∧ p ≠ .doneOk ∧ p ≠ .doneErr := by
  rcases h with rfl | rfl | rfl | rfl | rfl | rfl | rfl | rfl | rfl <;> decide

theorem SeqInv.clean_of_beforeSweep (h : SeqInv q) (hp : q.pc.beforeSweep) : q.Clean := by
  obtain ⟨-, -, -, hx, hc, hk, he⟩ := Phase.beforeSweep_ne hp
  exact h.clean hx hc hk he

/-- What the invariant says in P_EXIT and P_CLOSE. -/
theorem SeqInv.teardown (h : SeqInv q) (hp : q.pc = .exit ∨ q.pc = .close) :
    q.linkOpen = true ∧ q.output = none ∧ (∀ e, q.err = some e → e.sub ≠ .openFailed ∧ e.kind = e.sub.kind) ∧
    (q.err = none → q.Verified ∧ q.image.length = 2 * q.cfg.addrSpaceSize.val) := by
  refine ⟨h.linkOpen.mpr ?_, h.noOutput ?_, fun e he => ⟨h.teardownErr hp e he, h.errKind e he⟩, fun he => ?_⟩
  · rcases hp with hp | hp <;> simp [hp, Phase.linked]
  · rcases hp with hp | hp <;> simp [hp]
  · have hs : q.swept := .inr (.inr ⟨hp, he⟩)
    exact ⟨h.sigVerified (.inr (.inr hs)), h.imageWhole hs⟩

/-! ### The invariant phase by phase: the clauses about other phases hold because the phase is not theirs -/

/-- Every phase has a start (R551). -/
theorem Seq.pointFits_start (h : q.point = .start) : q.pointFits := by
  unfold Seq.pointFits
  split <;> simp [h]

theorem SeqInv.of_beforeSweep (c : q.Core) (hc : q.Clean) (hp : q.pc.beforeSweep) (hn : q.pc ≠ .sig)
    (hpt : q.point = .start) (hl : q.linkOpen = true ↔ q.pc.linked)
    (ha : q.pc = .idle ∨ q.pc = .opening → q.attempt = 0) (hm : q.pc = .entry → q.attempt < q.cfg.maxEntryAttempts)
    (hi : q.sigIdx = 0) (him : q.image = [] ∧ q.addr = 0) : SeqInv q := by
  obtain ⟨hcfg, hoff, hlen, hatt, haddr, hpe⟩ := c
  obtain ⟨herr, hout, hx⟩ := hc
  obtain ⟨hrdl, hrdh, hcsh, hex, hcl, hok, hde⟩ := Phase.beforeSweep_ne hp
  have hsw : ¬ q.swept := by simp [Seq.swept, hcsh, hok, hex, hcl]
  constructor
  case point => exact Seq.pointFits_start hpt
  case peLength => exact hpe
  case attemptFirst => exact ha
  case attemptLeft => exact fun h _ => hm h
  all_goals simp [*]

theorem SeqInv.of_sig (c : q.Core) (hc : q.Clean) (hp : q.pc = .sig) (hpt : q.point = .start)
    (hl : q.linkOpen = true) (him : q.image = [] ∧ q.addr = 0) (hi : q.sigIdx.val < 3)
    (hm : ∀ i : Fin 3, i.val < q.sigIdx.val → q.sigGot[i] = some q.cfg.expectedSig[i]) : SeqInv q := by
  obtain ⟨hcfg, hoff, hlen, hatt, haddr, hpe⟩ := c
  obtain ⟨herr, hout, hx⟩ := hc
  have hsw : ¬ q.swept := by simp [Seq.swept, hp]
  constructor
  case point => exact Seq.pointFits_start hpt
  case peLength => exact hpe
  case sigMatched => exact fun _ => hm
  case linkOpen => simp [hl, hp, Phase.linked]
  all_goals simp [*]

/-- Between two words of the sweep: the low read of the next word, or the end of the sweep (R570). -/
theorem SeqInv.of_nextWord (c : q.Core) (hc : q.Clean) (hpt : q.point = .start) (hl : q.linkOpen = true)
    (hv : q.Verified) (him : q.image.length = 2 * q.addr.toNat)
    (hp : q.pc = if q.addr.toNat < q.cfg.addrSpaceSize.val then .rdl else .csHigh) : SeqInv q := by
  obtain ⟨hcfg, hoff, hlen, hatt, haddr, hpe⟩ := c
  obtain ⟨herr, hout, hx⟩ := hc
  split at hp
  case isTrue ha =>
    have hsw : ¬ q.swept := by simp [Seq.swept, hp]
    constructor
    case point => exact Seq.pointFits_start hpt
    case peLength => exact hpe
    case sigVerified => exact fun _ => hv
    case linkOpen => simp [hl, hp, Phase.linked]
    all_goals simp [*, Phase.beforeSweep]
  case isFalse ha =>
    constructor
    case point => exact Seq.pointFits_start hpt
    case peLength => exact hpe
    case sigVerified => exact fun _ => hv
    case imageWhole => exact fun _ => by omega
    case linkOpen => simp [hl, hp, Phase.linked]
    all_goals simp [*, Phase.beforeSweep]

theorem SeqInv.of_rdh (c : q.Core) (hc : q.Clean) (hp : q.pc = .rdh) (hpt : q.point = .start)
    (hl : q.linkOpen = true) (hv : q.Verified) (ha : q.addr.toNat < q.cfg.addrSpaceSize.val)
    (him : q.image.length = 2 * q.addr.toNat + 1) : SeqInv q := by
  obtain ⟨hcfg, hoff, hlen, hatt, haddr, hpe⟩ := c
  obtain ⟨herr, hout, hx⟩ := hc
  have hsw : ¬ q.swept := by simp [Seq.swept, hp]
  constructor
  case point => exact Seq.pointFits_start hpt
  case peLength => exact hpe
  case sigVerified => exact fun _ => hv
  case linkOpen => simp [hl, hp, Phase.linked]
  all_goals simp [*, Phase.beforeSweep]

/-- In P_EXIT and P_CLOSE: only a session without an error has to have swept the whole memory. -/
theorem SeqInv.of_teardown (c : q.Core) (hp : q.pc = .exit ∨ q.pc = .close) (hpt : q.point = .start)
    (hl : q.linkOpen = true) (hout : q.output = none) (hx : q.exitCount = if q.pc = .close then 1 else 0)
    (he : ∀ e, q.err = some e → e.sub ≠ .openFailed ∧ e.kind = e.sub.kind)
    (hs : q.err = none → q.Verified ∧ q.image.length = 2 * q.cfg.addrSpaceSize.val) : SeqInv q := by
  obtain ⟨hcfg, hoff, hlen, hatt, haddr, hpe⟩ := c
  have hsw : q.swept → q.err = none := by rcases hp with hp | hp <;> simp [Seq.swept, hp]
  constructor
  case point => exact Seq.pointFits_start hpt
  case peLength => exact hpe
  case sigVerified => exact fun h => (hs (hsw (by rcases hp with hp | hp <;> simpa [hp] using h))).1
  case imageWhole => exact fun h => (hs (hsw h)).2
  case teardownErr => exact fun _ e h => (he e h).1
  case errKind => exact fun e h => (he e h).2
  case exitBound => rw [hx]; split <;> decide
  all_goals rcases hp with hp | hp <;> simp [hp, hl, hx, hout, hcfg, hoff, hlen, hatt, haddr, Phase.linked, Phase.beforeSweep]

theorem SeqInv.of_doneOk (c : q.Core) (hp : q.pc = .doneOk) (hpt : q.point = .start) (hl : q.linkOpen = false)
    (he : q.err = none) (hx : q.exitCount = 1) (hv : q.Verified)
    (him : q.image.length = 2 * q.cfg.addrSpaceSize.val) (hout : q.output = some q.image.bytes) : SeqInv q := by
  obtain ⟨hcfg, hoff, hlen, hatt, haddr, hpe⟩ := c
  constructor
  case point => exact Seq.pointFits_start hpt
  case peLength => exact hpe
  case sigVerified => exact fun _ => hv
  case linkOpen => simp [hl, hp, Phase.linked]
  all_goals simp [*, Phase.beforeSweep]

theorem SeqInv.of_doneErr {e : Err} (c : q.Core) (hp : q.pc = .doneErr) (hpt : q.point = .start)
    (hl : q.linkOpen = false) (he : q.err = some e) (hk : e.kind = e.sub.kind)
    (hx : q.exitCount = if e.sub = .openFailed then 0 else 1) (hout : q.output = none) : SeqInv q := by
  obtain ⟨hcfg, hoff, hlen, hatt, haddr, hpe⟩ := c
  have hsw : ¬ q.swept := by simp [Seq.swept, hp]
  constructor
  case point => exact Seq.pointFits_start hpt
  case peLength => exact hpe
  case linkOpen => simp [hl, hp, Phase.linked]
  case exitOnce => simp [hp]
  case exitBound => rw [hx]; split <;> decide
  case endErr => exact fun _ => ⟨e, he, by split <;> simp [*]⟩
  all_goals simp [*, Phase.beforeSweep]

/-! ### The steps of SEQ, one by one -/

/-- An error in a phase that holds the link sends SEQ to P_EXIT, and the invariant holds there. -/
theorem SeqInv.raise {e : Err} (c : u.seq.Core) (hc : u.seq.Clean) (hl : u.seq.linkOpen = true)
    (he : e.sub ≠ .openFailed) (hk : e.kind = e.sub.kind) : SeqInv (u.raise e).seq := by
  obtain ⟨herr, hout, hx⟩ := hc
  have hp : u.teardownPhase = .exit := by simp [State.teardownPhase, hl, hx]
  rw [State.raise_seq, herr, hp]
  exact .of_teardown c (.inl rfl) rfl hl hout hx (by rintro _ ⟨⟩; exact ⟨he, hk⟩) nofun

/-- Another place inside the phase, which the phase has, changes nothing else the invariant speaks of. -/
theorem SeqInv.setPoint (h : SeqInv q) {p : Point} {a : Nat} {tr : List Event}
    (hp : { q with point := p }.pointFits) (hs : p ≠ .start) (ha : a ≤ q.cfg.maxEntryAttempts)
    (hl : q.pc.linked) : SeqInv { q with point := p, attempt := a, trace := tr } := by
  obtain ⟨hi, ho, -, -⟩ := hl
  exact { h with
    point := hp
    attemptBound := ha
    attemptFirst := fun hpc => absurd hpc (by simp [hi, ho])
    attemptLeft := fun _ hst => absurd hst hs }

theorem Seq.pointFits_awaitAck (h : q.transaction ≠ none) : { q with point := .awaitAck }.pointFits := by
  cases hpc : q.pc <;> simp [Seq.transaction, hpc] at h <;> simp [Seq.pointFits]

theorem Seq.pointFits_awaitReply (h : q.framed ≠ none) :
    { q with point := .awaitReply Param.ack }.pointFits ∧ q.pc.linked := by
  cases hpc : q.pc <;> simp [Seq.framed, hpc] at h <;> simp [Seq.pointFits, Phase.linked]

theorem SeqInv.attempts_le (h : SeqInv q) (hp : q.point = .start) : q.attempts ≤ q.cfg.maxEntryAttempts := by
  unfold Seq.attempts
  split
  case isTrue hpc => exact h.attemptLeft hpc hp
  case isFalse => exact h.attemptBound

theorem Seq.Core.setAttempts (c : q.Core) {a : Nat} (ha : a ≤ q.cfg.maxEntryAttempts) :
    { q with attempt := a }.Core := by
  obtain ⟨hcfg, hoff, hlen, -, haddr, hpe⟩ := c
  exact ⟨hcfg, hoff, hlen, ha, haddr, hpe⟩

theorem SeqInv.begins (h : SeqInv s.seq) {step : StepId} {bs : List Byte}
    (hw : s.seq.transaction = some (step, bs)) (hp : s.seq.point = .start) :
    SeqInv ((((s.setAttempt s.seq.attempts).emit (.txBegin step bs)).pushH2d bs).setPoint .awaitAck).seq := by
  have ht : s.seq.transaction ≠ none := by simp [hw]
  exact h.setPoint (Seq.pointFits_awaitAck ht) nofun (h.attempts_le hp) (Seq.transaction_linked ht).1

theorem SeqInv.beginsLost (h : SeqInv s.seq) {step : StepId} {bs : List Byte}
    (hw : s.seq.transaction = some (step, bs)) (hp : s.seq.point = .start) :
    SeqInv (((s.setAttempt s.seq.attempts).emit (.txBegin step bs)).raise (linkLostAt step)).seq := by
  have ht : s.seq.transaction ≠ none := by simp [hw]
  exact .raise (h.core.setAttempts (h.attempts_le hp)) (h.clean_of_transaction ht) (h.open_of_transaction ht) nofun rfl

theorem protocol_not_openFailed {e : Err} (h : e.kind = .protocol) (hk : e.kind = e.sub.kind) :
    e.sub ≠ .openFailed := by
  intro he
  rw [h, he] at hk
  cases hk

/-- The phases before the sweep, one after another, with the image still empty. -/
theorem SeqInv.goto_beforeSweep (h : SeqInv q) {p : Phase} {o : Bool} {tr : List Event}
    (hq : q.pc.beforeSweep) (hn : q.pc ≠ .sig) (hp : p.beforeSweep) (hs : p ≠ .sig)
    (ho : o = true ↔ p.linked) (ha : p = .opening → q.attempt = 0) (hi : p ≠ .idle)
    (hm : p = .entry → q.attempt < q.cfg.maxEntryAttempts) :
    SeqInv { q with pc := p, point := .start, linkOpen := o, trace := tr } :=
  .of_beforeSweep h.core (h.clean_of_beforeSweep hq) hp hs rfl ho (fun h => ha (h.resolve_left hi)) hm
    (h.sigFirst hq hn) (h.imageEmpty hq)

/-- A signature byte that matched, with those before it (R567). -/
theorem sigGot_set_matched {got : Vector (Option Byte) 3} {expected : Vector Byte 3} {i : Fin 3}
    (h : ∀ j : Fin 3, j.val < i.val → got[j] = some expected[j]) (j : Fin 3) (hj : j.val < i.val + 1) :
    (got.set i (some expected[i]))[j] = some expected[j] := by
  by_cases he : i = j
  · subst he; simp
  · have hne : i.val ≠ j.val := fun hv => he (Fin.ext hv)
    have := h j (by omega)
    simpa [Vector.getElem_set, hne] using this

/-- Where a matching signature byte leads (R567), as one update of the state. -/
theorem afterSig_eq (i : Fin 3) (s : State) : afterSig i s =
    { s with seq := { s.seq with
      point := .start
      addr := if i.val = 2 ∧ 0 < s.seq.cfg.addrSpaceSize.val then 0 else s.seq.addr
      pc := if i.val < 2 then .sig else if 0 < s.seq.cfg.addrSpaceSize.val then .rdl else .csHigh } } := by
  unfold afterSig
  split
  case isTrue hi =>
    have h2 : i.val < 2 := by omega
    simp [State.goto, h2, Nat.ne_of_lt h2]
  case isFalse hi =>
    have h2 : i.val = 2 := by omega
    split
    · next hn => simp only [State.goto, State.setAddr, h2, hn]; rfl
    · next hn => simp only [State.goto, h2, hn]; rfl

/-- Before the sweep the address is 0 already. -/
theorem afterSig_seq (i : Fin 3) (h : s.seq.addr = 0) : (afterSig i s).seq = { s.seq with
    point := .start
    pc := if i.val < 2 then .sig else if 0 < s.seq.cfg.addrSpaceSize.val then .rdl else .csHigh } := by
  rw [afterSig_eq, ← h, ite_self]

theorem SeqInv.afterSig (h : SeqInv s.seq) {i : Fin 3} {e : Event} (hpc : s.seq.pc = .sig)
    (hi : s.seq.sigIdx.val = i.val) :
    SeqInv (afterSig i (((s.emit e).setSigGot i s.seq.cfg.expectedSig[i]).setSigIdx i.succ)).seq := by
  have ht : s.seq.transaction ≠ none := by simp [Seq.transaction, hpc, hi]
  have hc := h.clean_of_transaction ht
  have hl := h.open_of_transaction ht
  have him : s.seq.image = [] ∧ s.seq.addr = 0 := h.imageEmpty (by simp [hpc, Phase.beforeSweep])
  have hm := sigGot_set_matched (i := i) (fun j hj => h.sigMatched hpc j (by omega))
  have hz : (((s.emit e).setSigGot i s.seq.cfg.expectedSig[i]).setSigIdx i.succ).seq.addr = 0 := him.2
  rw [afterSig_seq i hz]
  split
  case isTrue hi2 => exact .of_sig h.core hc rfl rfl hl him (Nat.succ_lt_succ hi2) hm
  case isFalse hi2 =>
    exact .of_nextWord h.core hc rfl hl (fun j => hm j (by omega)) (by simp [him]) (by simp [him.2])

theorem SeqInv.checkSig (h : SeqInv s.seq) {i : Fin 3} {b : Byte} {e : Event} (hpc : s.seq.pc = .sig)
    (hi : s.seq.sigIdx.val = i.val) : SeqInv (checkSig i b (s.emit e)).seq := by
  have ht : s.seq.transaction ≠ none := by simp [Seq.transaction, hpc, hi]
  unfold Machine.checkSig
  split
  case isTrue => exact .raise h.core (h.clean_of_transaction ht) (h.open_of_transaction ht) nofun rfl
  case isFalse hb =>
    obtain rfl : b = s.seq.cfg.expectedSig[i] := not_not.mp hb
    exact h.afterSig hpc hi

theorem SeqInv.controls (h : SeqInv q) {step : StepId} {c : Byte} {expected : List Byte} {next : Phase}
    {tr : List Event} (hc : q.control = some (step, c, expected, next)) :
    SeqInv { q with pc := next, point := .start, trace := tr } := by
  have ht : q.transaction ≠ none := by simp [control_transaction hc]
  obtain ⟨herr, hout, hx⟩ := h.clean_of_transaction ht
  have hl := h.open_of_transaction ht
  cases hpc : q.pc <;> simp only [Seq.control, hpc] at hc <;> cases hc
  case csHigh =>
    have hs : q.swept := .inl hpc
    exact .of_teardown h.core (.inl rfl) rfl hl hout hx (by simp [herr])
      fun _ => ⟨h.sigVerified (.inr (.inr hs)), h.imageWhole hs⟩
  all_goals
    exact h.goto_beforeSweep (by simp [hpc, Phase.beforeSweep]) (by simp [hpc]) (by simp [Phase.beforeSweep])
      nofun (by simp [hl, Phase.linked]) nofun nofun nofun

theorem imgAppend_core {b : Byte} (c : s.seq.Core) (hn : s.seq.image.length < 2 * s.seq.cfg.addrSpaceSize.val) :
    (s.imgAppend b).seq.Core ∧ (s.imgAppend b).seq.image.length = s.seq.image.length + 1 := by
  obtain ⟨hcfg, hoff, hlen, hatt, haddr, hpe⟩ := c
  have him : (s.imgAppend b).seq.image = s.seq.image ++ [(s.seq.image.length, b)] := Memory.append_gapless _ b hoff
  refine ⟨⟨hcfg, ?_, ?_, hatt, haddr, hpe⟩, by rw [him]; simp⟩
  · rw [him]; exact Memory.gapless_append _ b hoff
  · rw [him]; simpa using hn

theorem SeqInv.readsLow (h : SeqInv s.seq) {b : Byte} {e : Event} (hpc : s.seq.pc = .rdl) :
    SeqInv (((s.emit e).imgAppend b).goto .rdh).seq := by
  have ht : s.seq.transaction ≠ none := by simp [Seq.transaction, hpc]
  obtain ⟨ha, him⟩ := h.imageLow hpc
  obtain ⟨c, hlen⟩ := imgAppend_core (s := s) (b := b) h.core (by omega)
  exact .of_rdh c (h.clean_of_transaction ht) rfl rfl (h.open_of_transaction ht) (h.sigVerified (.inl hpc)) ha
    (hlen.trans (by rw [him]; rfl))

/-- Where the sweep goes on, but for the trace (R570). -/
theorem advanceSweep_seq (s : State) : ∃ tr, (advanceSweep s).seq = { s.seq with
    pc := if s.seq.addr.toNat < s.seq.cfg.addrSpaceSize.val then .rdl else .csHigh, point := .start, trace := tr } := by
  unfold advanceSweep
  split <;> exact ⟨_, rfl⟩

/-- The sweep's address counter does not wrap (R104). -/
theorem addr_succ_toNat (h : q.addr.toNat < q.cfg.addrSpaceSize.val) : (q.addr + 1).toNat = q.addr.toNat + 1 := by
  have := q.cfg.addrSpaceSize.isLt
  bv_omega

theorem SeqInv.readsHigh (h : SeqInv s.seq) {b : Byte} {e : Event} (hpc : s.seq.pc = .rdh) :
    SeqInv (advanceSweep (((s.emit e).imgAppend b).setAddr (s.seq.addr + 1))).seq := by
  have ht : s.seq.transaction ≠ none := by simp [Seq.transaction, hpc]
  obtain ⟨ha, him⟩ := h.imageHigh hpc
  obtain ⟨⟨hcfg, hoff, hlen, hatt, -, hpe⟩, hone⟩ := imgAppend_core (s := s) (b := b) h.core (by omega)
  have hnext := addr_succ_toNat ha
  obtain ⟨tr, hseq⟩ := advanceSweep_seq (((s.emit e).imgAppend b).setAddr (s.seq.addr + 1))
  rw [hseq]
  refine .of_nextWord ⟨hcfg, hoff, hlen, hatt, hnext.trans_le ha, hpe⟩ (h.clean_of_transaction ht) rfl
    (h.open_of_transaction ht) (h.sigVerified (.inr (.inl hpc))) (hone.trans ?_) rfl
  simp only [State.setAddr_seq_addr]
  omega

theorem SeqInv.enables (h : SeqInv q) (hpc : q.pc = .pe) {r : List Byte} (hr : r.length = 4) {tr : List Event} :
    SeqInv { q with pc := .sig, point := .start, peReply := some r, trace := tr } := by
  have hb : q.pc.beforeSweep := by simp [hpc, Phase.beforeSweep]
  have hi : q.sigIdx = 0 := h.sigFirst hb (by simp [hpc])
  obtain ⟨hcfg, hoff, hlen, hatt, haddr, -⟩ := h.core
  exact .of_sig ⟨hcfg, hoff, hlen, hatt, haddr, by rintro _ ⟨⟩; exact hr⟩ (h.clean_of_beforeSweep hb) rfl rfl
    (h.linkOpen.mpr (by simp [hpc, Phase.linked])) (h.imageEmpty hb) (by simp [hi]) (by simp [hi])

theorem SeqInv.openFails (h : SeqInv s.seq) (hpc : s.seq.pc = .opening) :
    SeqInv (s.raise (Err.of .openFailed .sOpen [] [])).seq := by
  obtain ⟨herr, hout, hx⟩ := h.clean_of_beforeSweep (by simp [hpc, Phase.beforeSweep])
  have hl : s.seq.linkOpen = false := by simpa [hpc, Phase.linked] using h.linkOpen
  have hp : s.teardownPhase = .doneErr := by simp [State.teardownPhase, hl]
  rw [State.raise_seq, herr, hp]
  exact .of_doneErr h.core rfl rfl hl rfl rfl hx hout

theorem SeqInv.exits (h : SeqInv q) (hpc : q.pc = .exit) {tr : List Event} :
    SeqInv { q with pc := .close, point := .start, exitCount := q.exitCount + 1, trace := tr } := by
  obtain ⟨hl, hout, herr, hs⟩ := h.teardown (.inl hpc)
  have hx : q.exitCount = 0 := by simpa [hpc] using h.exitOnce
  exact .of_teardown h.core (.inr rfl) rfl hl hout (by simp [hx]) herr hs

/-- On a lost link P_EXIT is an error like any other, after the sequence has been counted (R572, R711). -/
theorem SeqInv.exitsLost (h : SeqInv s.seq) (hpc : s.seq.pc = .exit) {e : Event} :
    SeqInv (((s.setExitCount (s.seq.exitCount + 1)).emit e).raise (linkLostAt .sExit)).seq := by
  obtain ⟨hl, hout, herr, -⟩ := h.teardown (.inl hpc)
  have hx : s.seq.exitCount = 0 := by simpa [hpc] using h.exitOnce
  have hp : ((s.setExitCount (s.seq.exitCount + 1)).emit e).teardownPhase = .close := by
    simp [State.teardownPhase, hl]
  rw [State.raise_seq, hp]
  refine .of_teardown h.core (.inr rfl) rfl hl hout (by simp [hx]) (fun e' he' => ?_) (fun he' => ?_)
  · cases hse : s.seq.err <;> simp [hse] at he'
    · subst he'; exact ⟨nofun, rfl⟩
    · subst he'; exact herr _ hse
  · cases hse : s.seq.err <;> simp [hse] at he'

theorem SeqInv.publishes (h : SeqInv q) (hpc : q.pc = .close) (he : q.err = none) {tr : List Event} :
    SeqInv { q with
      pc := .doneOk, point := .start, linkOpen := false, output := some q.image.bytes, trace := tr } := by
  obtain ⟨-, -, -, hs⟩ := h.teardown (.inr hpc)
  have hx : q.exitCount = 1 := by simpa [hpc] using h.exitOnce
  exact .of_doneOk h.core rfl rfl rfl he hx (hs he).1 (hs he).2 rfl

theorem SeqInv.closes (h : SeqInv q) (hpc : q.pc = .close) {e : Err} (he : q.err = some e) {tr : List Event} :
    SeqInv { q with pc := .doneErr, point := .start, linkOpen := false, trace := tr } := by
  obtain ⟨-, hout, herr, -⟩ := h.teardown (.inr hpc)
  obtain ⟨hsub, hk⟩ := herr e he
  have hx : q.exitCount = 1 := by simpa [hpc] using h.exitOnce
  exact .of_doneErr h.core rfl rfl rfl he hk (by simp [hx, hsub]) hout

theorem sessionStart_inv {c : SessionCfg} (hc : c.legal) : SeqInv (Seq.sessionStart c) :=
  .of_beforeSweep ⟨hc, rfl, Nat.zero_le _, Nat.zero_le _, Nat.zero_le _, nofun⟩ ⟨rfl, rfl, rfl⟩ (.inl rfl) nofun rfl
    (by simp [Seq.sessionStart, Phase.linked]) (fun _ => rfl) nofun rfl ⟨rfl, rfl⟩

/-- SEQ's part of the invariant is kept by every step of SEQ. -/
theorem SeqStep.keeps_inv (st : SeqStep s t) (h : SeqInv s.seq) (hs : ∀ c ∈ s.sessions, c.legal) : SeqInv t.seq := by
  cases st with
  | starts hpc =>
    have hl : ¬ s.seq.linkOpen = true := fun ho => by simpa [hpc, Phase.linked] using h.linkOpen.mp ho
    exact h.goto_beforeSweep (by simp [hpc, Phase.beforeSweep]) (by simp [hpc]) (by simp [Phase.beforeSweep]) nofun
      (by simp [hl, Phase.linked]) (fun _ => h.attemptFirst (.inl hpc)) nofun nofun
  | openFails hpc => exact SeqInv.openFails (s := s.tick) h hpc
  | opens hpc =>
    have ha := h.attemptFirst (.inr hpc)
    have hmax : 0 < s.seq.cfg.maxEntryAttempts := by
      obtain ⟨_, _, _, _, hm⟩ := h.cfg
      rw [hm]; decide
    exact h.goto_beforeSweep (by simp [hpc, Phase.beforeSweep]) (by simp [hpc]) (by simp [Phase.beforeSweep]) nofun
      (by simp [Phase.linked]) nofun nofun (fun _ => by rw [ha]; exact hmax)
  | begins hw hp => exact h.begins hw hp
  | beginsLost hw hp => exact h.beginsLost hw hp
  | readsLost hw =>
    have ht : s.seq.transaction ≠ none := by simp [hw]
    exact .raise h.core (h.clean_of_transaction ht) (h.open_of_transaction ht) nofun rfl
  | holds => exact h
  | replyFails hw _ he hk =>
    have ht : s.seq.transaction ≠ none := by simp [hw]
    exact .raise h.core (h.clean_of_transaction ht) (h.open_of_transaction ht) (protocol_not_openFailed he hk) hk
  | acknowledged hf =>
    obtain ⟨hp, hl⟩ := Seq.pointFits_awaitReply hf
    exact h.setPoint hp nofun h.attemptBound hl
  | entersAgain hpc ha =>
    exact h.goto_beforeSweep (by simp [hpc, Phase.beforeSweep]) (by simp [hpc]) (by simp [Phase.beforeSweep]) nofun
      (by simp [h.linkOpen, hpc, Phase.linked]) nofun nofun (fun _ => ha)
  | enters hpc =>
    exact h.goto_beforeSweep (by simp [hpc, Phase.beforeSweep]) (by simp [hpc]) (by simp [Phase.beforeSweep]) nofun
      (by simp [h.linkOpen, hpc, Phase.linked]) nofun nofun nofun
  | controls hc => exact h.controls hc
  | enables hpc _ hr => exact h.enables hpc hr
  | @signs _ _ _ d k hpc hi => exact SeqInv.checkSig (s := s.took d k) h hpc hi
  | @readsLow _ _ d k hpc => exact SeqInv.readsLow (s := s.took d k) h hpc
  | @readsHigh _ _ d k hpc => exact SeqInv.readsHigh (s := s.took d k) h hpc
  | exits hpc => exact h.exits hpc
  | exitsLost hpc => exact h.exitsLost hpc
  | publishes hpc he => exact h.publishes hpc he
  | closes hpc he => exact h.closes hpc he
  | rests => exact h
  | restarts _ hc => exact sessionStart_inv (hs _ (by simp [hc]))

end Sys2Proof.Machine
end

section
/-! PROOF. Everything an instruction of DEC can do: to the rest of the machine (`DecEffect`), and to the parser
in the instructions that move a frame on. -/

namespace Sys2Proof.Machine

/-! ### The instructions that move a frame on (R416 to R418, R502 to R505) -/

/-- What R133 says of a parser state. -/
def ParseFits : Parse → Prop
  | .idle => True
  | .hdr k acc => acc.length = k ∧ k < 4
  | .data n m acc => acc.length < n.toNat ∧ n.toNat ≤ Param.wtrMax ∧ m.toNat ≤ Param.wtrMax

/-- The parser moves on, to a state R133 allows if it stood in one, and bus records and a reply may come. -/
def FrameMove (s t : State) : Prop :=
  ∃ p l r, t = ((s.setParse p).logExchanges l).reply r ∧ (ParseFits s.dec.parse → ParseFits p)

variable {s t : State}

@[simp] theorem State.reply_nil (s : State) : s.reply [] = s := by simp [State.reply]

theorem frameMove_setParse {p : Parse} (h : ParseFits s.dec.parse → ParseFits p) : FrameMove s (s.setParse p) :=
  ⟨p, [], [], by simp, h⟩

theorem frameMove_completeFrame (p : List Byte) (m : Count) (s : State) : FrameMove s (completeFrame p m s) := by
  obtain ⟨w, r, e, -⟩ := wtrExecute_spec p m.toNat (s.setParse .idle)
  exact ⟨.idle, w ++ r, _, e, fun _ => trivial⟩

theorem frameMove_acceptHeader (n m : Count) (s : State) : FrameMove s (acceptHeader n m s) := by
  unfold acceptHeader
  split
  case isTrue => exact ⟨.idle, [], Param.nack, by simp, fun _ => trivial⟩
  case isFalse hmax =>
    split
    case isTrue => exact frameMove_completeFrame [] m s
    case isFalse hn =>
      have hpos : 0 < n.toNat := Nat.pos_of_ne_zero fun h0 => hn (BitVec.eq_of_toNat_eq h0)
      exact frameMove_setParse fun _ => ⟨hpos, by omega, by omega⟩

theorem execSWtrHdr_frameMove {b : Byte} (h : execSWtrHdr b s = .next t) : FrameMove s t := by
  unfold execSWtrHdr at h
  split at h
  case h_1 k acc hp =>
    split at h
    case isTrue hk =>
      cases h
      refine frameMove_setParse fun hw => ?_
      rw [hp] at hw
      exact ⟨by simp [hw.1], hk⟩
    case isFalse =>
      split at h <;> cases h
      exact frameMove_acceptHeader _ _ s
  all_goals cases h

theorem execSWtrData_frameMove {b : Byte} (h : execSWtrData b s = .next t) : FrameMove s t := by
  unfold execSWtrData at h
  split at h
  case h_1 n m acc hp =>
    cases h
    split
    case isTrue => exact frameMove_completeFrame _ m s
    case isFalse hlen =>
      refine frameMove_setParse fun hw => ?_
      rw [hp] at hw
      obtain ⟨hlt, hn, hm⟩ := hw
      simp only [List.length_append, List.length_singleton] at hlen
      exact ⟨by simp; omega, hn, hm⟩
  all_goals cases h

/-- An ISP instruction is the completion of its frame (R502 to R505). -/
theorem exec_ispFrame {i : Instr} {p : List Byte} {m : Count} (hi : ispFrame i = some (p, m)) :
    exec i s = .next (completeFrame p m s) := by
  cases i <;> cases hi <;> rfl

/-- Every instruction that takes a byte of a frame, or completes one, does so by a `FrameMove`. -/
theorem exec_frameMove {i : Instr} (hi : (∃ b, i = .sWtrHdr b ∨ i = .sWtrData b) ∨ ispFrame i ≠ none)
    (h : exec i s = .next t) : FrameMove s t := by
  rcases hi with ⟨b, rfl | rfl⟩ | hi
  · exact execSWtrHdr_frameMove h
  · exact execSWtrData_frameMove h
  · obtain ⟨⟨p, m⟩, hpm⟩ := Option.ne_none_iff_exists'.mp hi
    rw [exec_ispFrame hpm] at h
    cases h
    exact frameMove_completeFrame p m s

/-! ### What no instruction changes -/

/-- An instruction changes DEC and the draw counter, and appends to the replies and the bus history. -/
structure DecEffect (s t : State) : Prop where
  seq : t.seq = s.seq
  h2d : t.link.h2d = s.link.h2d
  up : t.link.up = s.link.up
  turn : t.turn = s.turn
  sessions : t.sessions = s.sessions
  d2h : s.link.d2h <+: t.link.d2h
  log : s.bus.log <+: t.bus.log

theorem FrameMove.decEffect (h : FrameMove s t) : DecEffect s t := by
  obtain ⟨p, l, r, rfl, -⟩ := h
  exact ⟨rfl, rfl, rfl, rfl, rfl, List.prefix_append _ _, List.prefix_append _ _⟩

/-- R152, R400: every instruction has this effect only. -/
theorem exec_decEffect {i : Instr} (h : exec i s = .next t) : DecEffect s t := by
  cases i with
  | sWtrHdr b => exact (exec_frameMove (.inl ⟨b, .inl rfl⟩) h).decEffect
  | sWtrData b => exact (exec_frameMove (.inl ⟨b, .inr rfl⟩) h).decEffect
  | ispPe | ispRsig | ispRdl | ispRdh => exact (exec_frameMove (.inr (by simp [ispFrame])) h).decEffect
  | tEntry | xAny => cases h; split <;> constructor <;> simp
  | tOther | bEntry | bSpiSelect | bResetTerm | bUndef | sExitBbio | sCsLow | sCsHigh | sCfg | sSpeed | sWtr
  | sUndef => cases h; constructor <;> simp

/-- Settles O28: an instruction's whole effect outside DEC is `DecEffect`. -/
theorem instructionsLeaveSequencerAndLinkAlone : Obligations.InstructionsLeaveSequencerAndLinkAlone := by
  intro i s t h
  obtain ⟨hseq, hh2d, hup, hturn, hsess, ⟨r, hr⟩, ⟨l, hl⟩⟩ := exec_decEffect h
  exact ⟨hseq, hh2d, hup, hturn, hsess, fun a => by rw [hseq], ⟨r, hr.symm⟩, ⟨l, hl.symm⟩⟩

/-- Settles O29: the instructions that move a frame on write the parser only, and each other instruction is a
command whose updates name the registers it writes. -/
theorem spiRegistersAreWrittenOnlyByTheirCommands : Obligations.SpiRegistersAreWrittenOnlyByTheirCommands := by
  intro i s t h
  cases i with
  | sWtrHdr b =>
    obtain ⟨p, l, r, rfl, -⟩ := exec_frameMove (.inl ⟨b, .inl rfl⟩) h
    simp
  | sWtrData b =>
    obtain ⟨p, l, r, rfl, -⟩ := exec_frameMove (.inl ⟨b, .inr rfl⟩) h
    simp
  | ispPe | ispRsig | ispRdl | ispRdh =>
    obtain ⟨p, l, r, rfl, -⟩ := exec_frameMove (.inr (by simp [ispFrame])) h
    simp [ispFrame]
  | tEntry | xAny => cases h; split <;> simp
  | tOther | bEntry | bSpiSelect | bResetTerm | bUndef | sExitBbio | sCsLow | sCsHigh | sCfg | sSpeed | sWtr
  | sUndef => cases h; simp

/-! ### DEC's part of the invariant -/

theorem decInv_iff {d : Dec} : DecInv d ↔
    (d.parse ≠ .idle → d.mode = .spi) ∧ ParseFits d.parse ∧ d.entryRun < Config.entryThreshold ∧
    (d.mode ≠ .terminal → d.entryRun = 0) := by
  constructor
  · rintro ⟨hmode, hhdr, hdata, hrun, hterm⟩
    refine ⟨hmode, ?_, hrun, hterm⟩
    cases hp : d.parse
    case idle => trivial
    case hdr k acc => exact hhdr k acc hp
    case data n m acc => exact hdata n m acc hp
  · rintro ⟨hmode, hwf, hrun, hterm⟩
    refine ⟨hmode, ?_, ?_, hrun, hterm⟩
    · intro k acc hp; rwa [hp] at hwf
    · intro n m acc hp; rwa [hp] at hwf

/-- A frame moves on in SPI mode only. -/
theorem FrameMove.keeps_decInv (h : FrameMove s t) (hs : DecInv s.dec) (hm : s.dec.mode = .spi) : DecInv t.dec := by
  obtain ⟨p, l, r, rfl, hp⟩ := h
  obtain ⟨-, hwf, hrun, hterm⟩ := decInv_iff.mp hs
  exact decInv_iff.mpr ⟨fun _ => hm, hp hwf, hrun, hterm⟩

theorem decodeIsp_ispFrame {p : List Byte} {m : Count} {i : Instr} (h : decodeIsp p m = .ok i) :
    ispFrame i ≠ none := by
  unfold decodeIsp at h
  repeat' split at h
  all_goals cases h <;> simp [ispFrame]

/-- A payload byte is S.WTR_DATA or completes the frame of an ISP instruction (R307, R312). -/
theorem decodePayload_cases (n m : Count) (acc : List Byte) (b : Byte) :
    decodePayload n m acc b = .sWtrData b ∨ ispFrame (decodePayload n m acc b) ≠ none := by
  unfold decodePayload
  split
  · split
    · next h => exact .inr (decodeIsp_ispFrame h)
    · exact .inl rfl
  · exact .inl rfl

theorem entryThreshold_pos : 0 < Config.entryThreshold := Nat.succ_pos _

/-- A command that leaves the parser idle and the run as R132 wants it keeps DEC's part of the invariant. -/
theorem decInv_of_idle {d : Dec} (hp : d.parse = .idle) (hr : d.entryRun < Config.entryThreshold)
    (hm : d.mode ≠ .terminal → d.entryRun = 0) : DecInv d :=
  decInv_iff.mpr ⟨fun h => absurd hp h, by rw [hp]; trivial, hr, hm⟩

theorem DecInv.parse_idle (h : DecInv s.dec) (hm : s.dec.mode ≠ .spi) : s.dec.parse = .idle :=
  not_not.mp fun hp => hm (h.parseMode hp)

/-- T.ENTRY and T.OTHER keep the run below the threshold (R401, R402). -/
theorem consumeTerminal_keeps_decInv {b : Byte} (hs : DecInv s.dec) (hm : s.dec.mode = .terminal)
    (h : exec (decodeTerminal b) s = .next t) : DecInv t.dec := by
  have hp := hs.parse_idle (by simp [hm])
  unfold decodeTerminal at h
  split at h <;> cases h
  · split
    · exact decInv_of_idle rfl entryThreshold_pos fun _ => rfl
    · exact decInv_of_idle hp (Nat.lt_of_not_le ‹_›) (fun hn => absurd hm hn)
  · exact decInv_of_idle hp entryThreshold_pos fun _ => rfl

theorem consumeBbio_keeps_decInv {b : Byte} (hs : DecInv s.dec) (hm : s.dec.mode = .bbio)
    (h : exec (decodeBbio b) s = .next t) : DecInv t.dec := by
  have hp := hs.parse_idle (by simp [hm])
  have hr := hs.runMode (by simp [hm])
  unfold decodeBbio at h
  repeat' split at h
  all_goals cases h; exact decInv_of_idle (by simp [hp]) (by simp [hr, entryThreshold_pos]) (by simp [hr])

/-- The commands of SPI mode leave the parser idle, but for S.WTR, which begins a header (R411 to R419). -/
theorem consumeSpiIdle_keeps_decInv {b : Byte} (hs : DecInv s.dec) (hm : s.dec.mode = .spi)
    (hp : s.dec.parse = .idle) (h : exec (decodeSpiIdle b) s = .next t) : DecInv t.dec := by
  have hr := hs.runMode (by simp [hm])
  unfold decodeSpiIdle at h
  repeat' split at h
  all_goals cases h; simp [decInv_iff, ParseFits, hm, hp, hr, entryThreshold_pos]

/-- Where R307 reads a frame byte, in SPI mode, the frame moves on. -/
theorem consumeSpi_keeps_decInv {b : Byte} (hs : DecInv s.dec) (hm : s.dec.mode = .spi)
    (h : exec (decodeLink .spi s.dec.parse b) s = .next t) : DecInv t.dec := by
  cases hp : s.dec.parse <;> rw [hp] at h
  case idle => exact consumeSpiIdle_keeps_decInv hs hm hp h
  case hdr => exact (exec_frameMove (.inl ⟨b, .inl rfl⟩) h).keeps_decInv hs hm
  case data n m acc =>
    have hi : (∃ b', decodePayload n m acc b = .sWtrHdr b' ∨ decodePayload n m acc b = .sWtrData b') ∨
        ispFrame (decodePayload n m acc b) ≠ none := (decodePayload_cases n m acc b).imp_left fun e => ⟨b, .inr e⟩
    exact (exec_frameMove hi h).keeps_decInv hs hm

/-- DEC's part of the invariant is kept by every byte DEC executes. -/
theorem consume_keeps_decInv {b : Byte} (hs : DecInv s.dec) (h : consume b s = .next t) : DecInv t.dec := by
  unfold consume State.decodes at h
  cases hm : s.dec.mode <;> rw [hm] at h
  case terminal => exact consumeTerminal_keeps_decInv hs hm h
  case bbio => exact consumeBbio_keeps_decInv hs hm h
  case spi => exact consumeSpi_keeps_decInv hs hm h
  case desync =>
    have hp := hs.parse_idle (by simp [hm])
    have hr := hs.runMode (by simp [hm])
    cases h
    split <;> exact decInv_of_idle (by simp [hp]) (by simp [hr, entryThreshold_pos]) (by simp [hr])

end Sys2Proof.Machine
end

section
/-! PROOF. What SEQ leaves alone, when the link falls, and the invariant of the whole machine. -/

namespace Sys2Proof.Machine

variable {s t : State}

/-- SEQ's steps inside a session touch neither DEC, the bus nor the turn (R137, R152), keep the configuration
(R113) and a recorded error (R710), and only add to the trace (R112). -/
structure SeqEffect (s t : State) : Prop where
  dec : t.dec = s.dec
  bus : t.bus = s.bus
  turn : t.turn = s.turn
  sessions : t.sessions = s.sessions
  cfg : t.seq.cfg = s.seq.cfg
  trace : s.seq.trace <+: t.seq.trace
  err : ∀ e, s.seq.err = some e → t.seq.err = some e

theorem checkSig_seqEffect (i : Fin 3) (b : Byte) (s : State) : SeqEffect s (checkSig i b s) := by
  unfold checkSig afterSig
  repeat' split
  all_goals constructor <;> simp +contextual

theorem advanceSweep_seqEffect (s : State) : SeqEffect s (advanceSweep s) := by
  unfold advanceSweep
  split <;> constructor <;> simp

theorem SeqEffect.trans {u : State} (h : SeqEffect s t) (h' : SeqEffect t u) : SeqEffect s u where
  dec := h'.dec.trans h.dec
  bus := h'.bus.trans h.bus
  turn := h'.turn.trans h.turn
  sessions := h'.sessions.trans h.sessions
  cfg := h'.cfg.trans h.cfg
  trace := h.trace.trans h'.trace
  err := fun e he => h'.err e (h.err e he)

theorem SeqStep.seqEffect (st : SeqStep s t) (hs : s.sessionOver = false) : SeqEffect s t := by
  cases st with
  | signs => exact SeqEffect.trans (by constructor <;> simp) (checkSig_seqEffect _ _ _)
  | readsHigh => exact SeqEffect.trans (by constructor <;> simp) (advanceSweep_seqEffect _)
  | rests ho => simp [hs] at ho
  | restarts ho => simp [hs] at ho
  | _ => constructor <;> simp +contextual

/-- A turn of SEQ in a final phase lets it pass or starts the next session (R574, R802). -/
theorem SeqStep.over_cases (st : SeqStep s t) (hs : s.sessionOver = true) :
    t = s ∨ ∃ c rest, s.sessions = c :: rest ∧ t = { s with sessions := rest }.startSession c := by
  have h (p : Phase) (hp : s.seq.pc = p) : p = .doneOk ∨ p = .doneErr := by
    simpa [State.sessionOver, hp] using hs
  cases st with
  | rests => exact .inl rfl
  | restarts _ hc => exact .inr ⟨_, _, hc, rfl⟩
  | starts hp | openFails hp | opens hp | entersAgain hp | enters hp | enables hp | signs hp | readsLow hp
  | readsHigh hp | exits hp | exitsLost hp | publishes hp | closes hp => simpa using h _ hp
  | begins hw | beginsLost hw | readsLost hw | holds hw | replyFails hw =>
    rcases h _ rfl with hp | hp <;> simp [Seq.transaction, hp] at hw
  | acknowledged hf => rcases h _ rfl with hp | hp <;> simp [Seq.framed, hp] at hf
  | controls hc => rcases h _ rfl with hp | hp <;> simp [Seq.control, hp] at hc

/-- Settles O51: `SeqEffect` inside a session; a final phase can only start the next one. -/
theorem sequencerLeavesDecoderAndBusAlone : Obligations.SequencerLeavesDecoderAndBusAlone := by
  intro s t h
  have st := seqTurn_step h
  cases hs : s.sessionOver
  case false =>
    obtain ⟨hd, hb, ht, hsess, hcfg, ⟨l, hl⟩, herr⟩ := st.seqEffect hs
    exact ⟨hd, hb, ht, fun _ _ => ⟨hsess, hcfg, ⟨l, hl.symm⟩, herr⟩⟩
  case true =>
    have hover : s.seq.pc ≠ .doneOk → s.seq.pc = .doneErr := by
      simpa [State.sessionOver, or_iff_not_imp_left] using hs
    rcases st.over_cases hs with rfl | ⟨c, rest, -, rfl⟩
    all_goals exact ⟨rfl, rfl, rfl, fun hk he => absurd (hover hk) he⟩

/-! ### The link -/

@[simp] theorem checkSig_link (i : Fin 3) (b : Byte) (s : State) : (checkSig i b s).link = s.link := by
  unfold checkSig afterSig
  repeat' split
  all_goals rfl

@[simp] theorem advanceSweep_link (s : State) : (advanceSweep s).link = s.link := by
  unfold advanceSweep
  split <;> rfl

/-- Of SEQ's steps only P_CLOSE takes the link down (R123). -/
theorem SeqStep.link_up (st : SeqStep s t) (hpc : s.seq.pc ≠ .close) (hu : s.link.up = true) : t.link.up = true := by
  cases st with
  | publishes hc | closes hc => exact absurd hc hpc
  | _ => simp [hu]

/-- A turn of DEC leaves SEQ, the link's state and the sessions alone (R152, R400). -/
theorem decTurn_frame (h : decTurn s = .next t) :
    t.seq = s.seq ∧ t.link.up = s.link.up ∧ t.sessions = s.sessions := by
  unfold decTurn at h
  split at h
  · cases h; exact ⟨rfl, rfl, rfl⟩
  · have e := exec_decEffect h
    exact ⟨e.seq, e.up, e.sessions⟩

/-- A step is the turn of one agent, and then the next turn is drawn (R551). -/
theorem step_next (h : step s = .next t) : ∃ u, agentTurn s = .next u ∧ t = passTurn u := by
  unfold step at h
  split at h
  · cases h
  · obtain ⟨u, hu, ht⟩ := andThen_eq_next h
    cases ht
    exact ⟨u, hu, rfl⟩

/-- Settles O41: DEC's instructions keep `link.up`, and of SEQ's phases only P_CLOSE takes it down. -/
theorem linkFallsOnlyByItsLossOrTheClose : Obligations.LinkFallsOnlyByItsLossOrTheClose := by
  intro s t h hup hdown
  obtain ⟨u, hu, rfl⟩ := step_next h
  replace hdown : u.link.up = false := hdown
  unfold agentTurn at hu
  cases hturn : s.turn <;> rw [hturn] at hu
  case seq =>
    refine .inr ⟨rfl, not_not.mp fun hpc => ?_⟩
    simp [(seqTurn_step hu).link_up hpc hup] at hdown
  case dec =>
    obtain ⟨-, hsame, -⟩ := decTurn_frame hu
    simp [hsame, hup] at hdown
  case link => exact .inl rfl

/-! ### The invariant -/

@[simp] theorem checkSig_linkOpen (i : Fin 3) (b : Byte) (s : State) :
    (checkSig i b s).seq.linkOpen = s.seq.linkOpen := by
  unfold checkSig afterSig
  repeat' split
  all_goals rfl

@[simp] theorem advanceSweep_linkOpen (s : State) : (advanceSweep s).seq.linkOpen = s.seq.linkOpen := by
  unfold advanceSweep
  split <;> rfl

/-- After SEQ's step the link is up only while SEQ holds it open (R110, R123). -/
theorem SeqStep.link_open (st : SeqStep s t) (h : Inv s) (hu : t.link.up = true) : t.seq.linkOpen = true := by
  cases st with
  | opens => rfl
  | publishes | closes => simp at hu
  | restarts ho =>
    obtain ⟨-, -, hk, he⟩ := h.seq.linkOpen.mp (h.link hu)
    simp [State.sessionOver, hk, he] at ho
  | _ => simpa using h.link (by simpa using hu)

theorem SeqStep.sessions_subset (st : SeqStep s t) : t.sessions ⊆ s.sessions := by
  cases hs : s.sessionOver
  case false => rw [(st.seqEffect hs).sessions]; exact List.Subset.refl _
  case true =>
    rcases st.over_cases hs with rfl | ⟨c, rest, hc, rfl⟩
    · exact List.Subset.refl _
    · rw [hc]; exact List.subset_cons_self c rest

theorem SeqStep.dec_eq (st : SeqStep s t) : t.dec = s.dec := by
  cases hs : s.sessionOver
  case false => exact (st.seqEffect hs).dec
  case true => rcases st.over_cases hs with rfl | ⟨c, rest, -, rfl⟩ <;> rfl

theorem seqTurn_keeps_inv (hi : Inv s) (h : seqTurn s = .next t) : Inv t := by
  have st := seqTurn_step h
  exact ⟨st.keeps_inv hi.seq hi.sessions, st.dec_eq ▸ hi.dec, fun c hc => hi.sessions c (st.sessions_subset hc),
    st.link_open hi⟩

theorem decTurn_keeps_decInv (hi : DecInv s.dec) (h : decTurn s = .next t) : DecInv t.dec := by
  unfold decTurn at h
  split at h
  · cases h; exact hi
  · next rest _ => exact consume_keeps_decInv (s := s.setH2d rest) hi h

theorem decTurn_keeps_inv (hi : Inv s) (h : decTurn s = .next t) : Inv t := by
  obtain ⟨hseq, hup, hsess⟩ := decTurn_frame h
  exact ⟨hseq ▸ hi.seq, decTurn_keeps_decInv hi.dec h, hsess ▸ hi.sessions, by rw [hseq, hup]; exact hi.link⟩

theorem linkDrop_keeps_inv (hi : Inv s) : Inv s.linkDrop := ⟨hi.seq, hi.dec, hi.sessions, nofun⟩

theorem passTurn_keeps_inv (hi : Inv s) : Inv (passTurn s) := ⟨hi.seq, hi.dec, hi.sessions, hi.link⟩

/-- Settles O54, agent by agent: SEQ by the cases of `SeqStep`, DEC by the mode it decodes a byte in. -/
theorem everyStepKeepsTheInvariant : Obligations.EveryStepKeepsTheInvariant := by
  intro s t hi h
  obtain ⟨u, hu, rfl⟩ := step_next h
  refine passTurn_keeps_inv ?_
  unfold agentTurn at hu
  cases hturn : s.turn <;> rw [hturn] at hu
  case seq => exact seqTurn_keeps_inv hi hu
  case dec => exact decTurn_keeps_inv hi hu
  case link => cases hu; exact linkDrop_keeps_inv hi

end Sys2Proof.Machine
end

section
/-! PROOF. The statements about one step in one state: where a frame byte stops, the turns of SEQ and of the
link, `LinkRead` and `LinkWrite`, and the replies of P_PE and P_SIG. -/

namespace Sys2Proof.Machine

variable {s : State}

/-- Settles O20: outside the parser states of R307 both meanings are the fault, and a fourth header byte is
one of four bytes only after three. -/
theorem frameBytesNeedTheirParserState : Obligations.FrameBytesNeedTheirParserState := by
  intro b s
  refine ⟨fun h => ?_, fun k acc hp hk hlen => ?_, fun h => ?_⟩
  · cases hp : s.dec.parse
    case hdr k acc => exact absurd hp (h k acc)
    all_goals simp [exec, execSWtrHdr, hp]
  · have hk' : ¬ k + 1 < 4 := by omega
    simp only [exec, execSWtrHdr, hp, if_neg hk']
    split
    case h_1 n1 n0 m1 m0 h4 =>
      have := congrArg List.length h4
      simp at this
      exact absurd this hlen
    case h_2 => rfl
  · cases hp : s.dec.parse
    case data n m acc => exact absurd hp (h n m acc)
    all_goals simp [exec, execSWtrData, hp]

/-! ### The reasons an agent's turn stops -/

theorem exec_fault {i : Instr} {r : Fault} (h : exec i s = .fault r) : r = .parserMismatch := by
  cases i with
  | sWtrHdr b =>
    simp only [exec, execSWtrHdr] at h
    repeat' split at h
    all_goals cases h <;> rfl
  | sWtrData b =>
    simp only [exec, execSWtrData] at h
    split at h <;> cases h <;> rfl
  | _ => cases h

theorem ctrl_fault {step : StepId} {c : Byte} {expected : List Byte} {next : Phase} {r : Fault}
    (h : ctrl step c expected next s = .fault r) : r = .sequencerMismatch := by
  unfold ctrl at h
  split at h <;> cases h
  rfl

theorem xfer_ne_fault {step : StepId} {p : List Byte} {m : Count} {rest : List Byte → State → State} {r : Fault} :
    xfer step p m rest s ≠ .fault r := by
  unfold xfer
  split <;> nofun

theorem seqTurn_fault {r : Fault} (h : seqTurn s = .fault r) : r = .sequencerMismatch := by
  cases hpc : s.seq.pc <;> simp only [seqTurn, hpc] at h
  case busSel | cfg | speed | csLow | csHigh => exact ctrl_fault h
  case pe | rdl | rdh => exact absurd h xfer_ne_fault
  case entry =>
    unfold phaseEntry at h
    split at h <;> cases h
    rfl
  case sig =>
    unfold phaseSig at h
    split at h
    · exact absurd h xfer_ne_fault
    · cases h; rfl
  case idle | opening | exit | close | doneOk | doneErr => cases h

theorem agentTurn_ne_runEnded : agentTurn s ≠ .fault .runEnded := by
  intro h
  cases hturn : s.turn <;> simp only [agentTurn, hturn] at h
  case seq => cases seqTurn_fault h
  case dec =>
    unfold decTurn at h
    split at h
    · cases h
    · cases exec_fault h
  case link => cases h

theorem ended_iff (s : State) : s.ended = true ↔
    (s.seq.pc = .doneOk ∨ s.seq.pc = .doneErr) ∧ s.sessions = [] ∧ s.link.h2d = [] := by
  simp [State.ended, State.sessionOver, and_assoc]

theorem step_of_not_ended (h : s.ended = false) : step s = andThen (agentTurn s) fun t => .next (passTurn t) := by
  simp [step, h]

theorem step_runEnded_iff : step s = .fault .runEnded ↔ s.ended = true := by
  constructor
  · intro h
    by_contra hend
    rw [step_of_not_ended (by simpa using hend)] at h
    cases ha : agentTurn s <;> rw [ha] at h <;> cases h
    exact agentTurn_ne_runEnded ha
  · intro h
    simp [step, h]

/-- Settles O36: the first two parts run the agent whose turn it is, and no agent's own turn answers the fault
that ends a run. -/
theorem stepOfTheOtherAgents : Obligations.StepOfTheOtherAgents := by
  refine ⟨fun s hturn hend => ?_, fun s hturn hend => ?_, ended_iff, fun s => step_runEnded_iff⟩
  · rw [step_of_not_ended hend, agentTurn, hturn]
    cases seqTurn s <;> rfl
  · rw [step_of_not_ended hend, agentTurn, hturn]
    rfl

/-- Settles O40: the definitions of the two operations, with the error of a lost link written out. -/
theorem linkReadAndWrite : Obligations.LinkReadAndWrite := by
  refine ⟨fun n s => rfl, fun step bs s rest => rfl, fun step n s rest hu => ?_⟩
  simp [onRead, linkRead, hu, linkLostAt, Err.of, ErrSub.kind]

/-- A read of as many bytes as are present returns them (R124). -/
theorem onRead_append {step : StepId} {n : Nat} {r d : List Byte} {rest : List Byte → State → State}
    (hu : s.link.up = true) (hd : s.link.d2h = r ++ d) (hr : r.length = n) :
    onRead step n s rest = rest r (s.setD2h d) := by
  subst hr
  simp [onRead, linkRead, hu, hd]

/-- A framed transaction whose reply is there ends with it (R553). -/
theorem xfer_reply {step : StepId} {p r d a : List Byte} {m : Count} {rest : List Byte → State → State}
    (hp : s.seq.point = .awaitReply a) (hu : s.link.up = true) (hd : s.link.d2h = r ++ d) (hr : r.length = m.toNat) :
    xfer step p m rest s = .next (rest r ((s.setD2h d).emit (.txEnd step (a ++ r)))) := by
  simp [xfer, hp, onRead_append hu hd hr, xferReply, hr]

/-- Settles O46: the four bytes are there, so the framed transaction ends, and P_PE keeps them. -/
theorem programEnableReplyIsKept : Obligations.ProgramEnableReplyIsKept := by
  intro s r0 r1 r2 r3 d hpc hp hu hd
  have hx : seqTurn s = xfer .sPe pePayload peReads endPe s := by simp [seqTurn, hpc, phasePe]
  rw [hx, xfer_reply (r := [r0, r1, r2, r3]) hp hu hd rfl]
  rfl

theorem seqTurn_sig {i : Fin 3} (hpc : s.seq.pc = .sig) (hi : s.seq.sigIdx.val = i.val) :
    seqTurn s = xfer (.sSig i) (rsigPayload (BitVec.ofNat 8 i)) oneRead (endSig i) s := by
  have h3 : s.seq.sigIdx.val < 3 := by omega
  obtain rfl : i = ⟨s.seq.sigIdx, h3⟩ := Fin.ext hi.symm
  simp [seqTurn, hpc, phaseSig, h3]

/-- Settles O47: the byte is there, so the framed transaction ends, and then by the comparison of R567. -/
theorem signatureByteIsCompared : Obligations.SignatureByteIsCompared := by
  intro s i b d hpc hp hi hu hd
  rw [seqTurn_sig hpc hi, xfer_reply (r := [b]) hp hu hd rfl]
  by_cases hb : b = s.seq.cfg.expectedSig[i]
  · have hc : checkSig i b ((s.setD2h d).emit (.txEnd (.sSig i) [0x01, b])) = afterSig i
        ((((s.setD2h d).emit (.txEnd (.sSig i) [0x01, b])).setSigGot i b).setSigIdx i.succ) := if_neg (not_not.mpr hb)
    simp only [if_pos hb]
    exact congrArg _ (hc.trans (afterSig_eq i _))
  · simp only [if_neg hb]
    exact congrArg _ (if_pos hb)

end Sys2Proof.Machine
end

section
/-! PROOF. The memory: the split of a word address, the flash bytes SEQ stores, and the image a run publishes. -/

namespace Sys2Proof

/-! ### Word addresses (R202, R203) -/

/-- Narrowing to eight bits masks by itself. -/
theorem decompose_eq (a : SeqAddr) : decompose a = ((a >>> 8).setWidth 8, a.setWidth 8) := by
  have hmask (x : SeqAddr) : (x &&& 0xFF).setWidth 8 = x.setWidth 8 := by
    rw [BitVec.setWidth_and]
    exact BitVec.and_allOnes
  rw [decompose, hmask, hmask]

theorem decompose_segment_toNat (a : SeqAddr) : (decompose a).1.toNat = a.toNat / 256 := by
  have hsmall : a.toNat / 256 < 2 ^ 8 := by omega
  rw [decompose_eq, BitVec.toNat_setWidth, BitVec.toNat_ushiftRight, Nat.shiftRight_eq_div_pow]
  exact Nat.mod_eq_of_lt hsmall

theorem decompose_offset_toNat (a : SeqAddr) : (decompose a).2.toNat = a.toNat % 256 := by
  rw [decompose_eq, BitVec.toNat_setWidth]

/-- Up to `maxSegment` no bit of the segment is shifted out, and the offset fills the bits left free. -/
theorem recompose_toNat {segment : Byte} (offset : Byte) (h : segment.toNat ≤ maxSegment.toNat) :
    (recompose segment offset).toNat = 256 * segment.toNat + offset.toNat := by
  have hs : segment.toNat ≤ 0x3F := h
  have hshift : segment.toNat <<< 8 = 256 * segment.toNat := by rw [Nat.shiftLeft_eq, Nat.mul_comm]
  have hkept : segment.toNat <<< 8 % 2 ^ 14 = segment.toNat <<< 8 := Nat.mod_eq_of_lt (by omega)
  rw [recompose, BitVec.toNat_or, BitVec.toNat_shiftLeft, BitVec.toNat_setWidth_of_le (by decide),
    BitVec.toNat_setWidth_of_le (by decide), hkept, ← Nat.shiftLeft_add_eq_or_of_lt offset.isLt, hshift]

/-- Settles O7: the parts are quotient and remainder by 256, and recomposing them is division with remainder. -/
theorem addressSplitRoundTrips : Obligations.AddressSplitRoundTrips := by
  refine ⟨fun a ha => ?_, fun segment offset h => recompose_toNat offset h⟩
  have hseg := decompose_segment_toNat a
  have hoff := decompose_offset_toNat a
  have hmax : (decompose a).1.toNat ≤ 0x3F := by omega
  refine ⟨hseg, hoff, hmax, ?_⟩
  rw [recompose_toNat _ hmax, hseg, hoff, Nat.div_add_mod]

end Sys2Proof

namespace Sys2Proof.Machine

variable {s : State}

/-! ### The flash bytes SEQ stores (R207, R568 to R570) -/

theorem imgAppend_readByte_same (s : State) (b : Byte) :
    (s.imgAppend b).seq.image.readByte s.seq.image.length = some b := by
  simp [Memory.readByte_writeByte_same]

theorem imgAppend_readByte_other (s : State) (b : Byte) {a : Nat} (h : a ≠ s.seq.image.length) :
    (s.imgAppend b).seq.image.readByte a = s.seq.image.readByte a := by
  simp [Memory.readByte_writeByte_other _ _ _ b h]

/-- Where the sweep goes on and whether it says so (R570), as one update of the state. -/
theorem advanceSweep_eq (s : State) : advanceSweep s =
    { s with seq := { s.seq with
      point := .start
      pc := if s.seq.addr.toNat < s.seq.cfg.addrSpaceSize.val then .rdl else .csHigh
      trace := s.seq.trace ++ (if s.seq.addr.toNat % 256 = 0 then [.progress s.seq.addr.toNat] else []) } } := by
  unfold advanceSweep
  by_cases h : s.seq.addr.toNat % 256 = 0
  · simp [Param.progressInterval, h, State.goto, State.emit]
  · simp [Param.progressInterval, h, State.goto]

theorem seqTurn_rdl (hpc : s.seq.pc = .rdl) :
    seqTurn s = xfer (.sRdl s.seq.addr.toNat) (flashPayload rdlOpcode s.seq.addr) oneRead endRdl s := by
  simp [seqTurn, hpc, phaseRdl]

theorem seqTurn_rdh (hpc : s.seq.pc = .rdh) :
    seqTurn s = xfer (.sRdh s.seq.addr.toNat) (flashPayload rdhOpcode s.seq.addr) oneRead endRdh s := by
  simp [seqTurn, hpc, phaseRdh]

/-- Settles O48: the byte is there, so the framed transaction ends; the low byte is stored and the high read
begins, the high byte is stored and the sweep goes on. -/
theorem flashBytesAreAppended : Obligations.FlashBytesAreAppended := by
  rintro s b d (hpc | hpc) hp hu hd
  · rw [seqTurn_rdl hpc, xfer_reply (r := [b]) hp hu hd rfl]
    refine ⟨_, rfl, imgAppend_readByte_same _ b, fun a ha => imgAppend_readByte_other _ b ha, ?_⟩
    simp only [hpc]
    rfl
  · rw [seqTurn_rdh hpc, xfer_reply (r := [b]) hp hu hd rfl]
    refine ⟨_, congrArg _ (advanceSweep_eq _), imgAppend_readByte_same _ b,
      fun a ha => imgAppend_readByte_other _ b ha, ?_⟩
    simp only [hpc, State.setAddr_seq_trace, State.imgAppend_seq_trace, State.emit_seq_trace, List.append_assoc]
    rfl

/-! ### What an ended run published (R206, R573, R577, R811) -/

theorem sigGot_eq_expected {q : Seq} (hcfg : q.cfg.legal) (h : q.Verified) :
    q.sigGot = #v[some 0x1E, some 0x95, some 0x0F] := by
  obtain ⟨-, -, -, hsig, -⟩ := hcfg
  refine Vector.ext fun i hi => ?_
  have hv := h ⟨i, hi⟩
  rw [hsig] at hv
  refine hv.trans ?_
  match i, hi with
  | 0, _ | 1, _ | 2, _ => rfl

/-- The bytes of a gapless image are what it holds at their offsets (R205, R209). -/
theorem readByte_eq_getElem_bytes {m : Memory} (h : m.map Prod.fst = List.range m.length) (k : Nat)
    (hk : k < m.bytes.length) : m.readByte k = some m.bytes[k] := by
  have hr := Memory.readByte_gapless m 0 k (by rw [h, List.range_eq_range'])
  rwa [Nat.zero_add, List.getElem?_eq_getElem hk] at hr

/-- Settles O58: the invariant's clauses for the two final phases. -/
theorem whatAnEndedRunPublished : Obligations.WhatAnEndedRunPublished := by
  intro s hi
  have h := hi.seq
  refine ⟨fun hpc => ?_, fun hpc => ?_⟩
  · have hswept : s.seq.swept := .inr (.inl hpc)
    refine ⟨h.noErr (by simp [hpc]) (by simp [hpc]) (by simp [hpc]), h.exitOnce.trans (if_pos (.inr hpc)),
      sigGot_eq_expected h.cfg (h.sigVerified (.inr (.inr hswept))), s.seq.image.bytes, h.output hpc, ?_,
      readByte_eq_getElem_bytes h.imageOffsets⟩
    exact (List.length_map _).trans (h.imageWhole hswept)
  · obtain ⟨e, he, -⟩ := h.endErr hpc
    exact ⟨Option.ne_none_iff_exists'.mpr ⟨e, he⟩, h.noOutput (by simp [hpc])⟩

end Sys2Proof.Machine
end

section
/-! PROOF. The opcode map of the link bytes (R302 to R310, R315): the fields of a CFG and of a SPEED byte, and
what each row of R307 reads. -/

namespace Sys2Proof

/-! ### The fields of a byte (R303, R304, R309, R310) -/

theorem byteBit_toNat (b : Byte) (k : Nat) : (byteBit b k).toNat = b.toNat / 2 ^ k % 2 := by
  rw [byteBit, BitVec.extractLsb'_toNat, Nat.shiftRight_eq_div_pow, Nat.pow_one]

theorem speedField_toNat (b : Byte) : (speedField b).toNat = b.toNat % 8 := BitVec.extractLsb'_toNat 0 3 b

theorem cfgByte_toNat (e p h d : Bit) :
    (cfgByte e p h d).toNat = 0x80 + 8 * e.toNat + 4 * p.toNat + 2 * h.toNat + d.toNat := by
  decide +revert

theorem speedByte_toNat (r : Rate) : (speedByte r).toNat = 0x60 + r.toNat := by
  decide +revert

theorem cfgOpcode_eq_iff (b : Byte) : cfgOpcode b = Param.cfgGroup ↔ 0x80 ≤ b.toNat ∧ b.toNat ≤ 0x8F := by
  have hb : (cfgOpcode b).toNat = b.toNat / 16 % 16 := by
    rw [cfgOpcode, BitVec.extractLsb'_toNat, Nat.shiftRight_eq_div_pow]
  have hg : Param.cfgGroup.toNat = 8 := rfl
  rw [← BitVec.toNat_inj, hb, hg]
  omega

theorem speedOpcode_eq_iff (b : Byte) : speedOpcode b = Param.speedGroup ↔ 0x60 ≤ b.toNat ∧ b.toNat ≤ 0x67 := by
  have hb : (speedOpcode b).toNat = b.toNat / 8 % 32 := by
    rw [speedOpcode, BitVec.extractLsb'_toNat, Nat.shiftRight_eq_div_pow]
  have hg : Param.speedGroup.toNat = 12 := rfl
  rw [← BitVec.toNat_inj, hb, hg]
  omega

/-- A byte with the opcode bits of CFG is assembled from its four fields (R303, R309). -/
theorem cfgByte_byteBit {b : Byte} (h : cfgOpcode b = Param.cfgGroup) :
    cfgByte (byteBit b 3) (byteBit b 2) (byteBit b 1) (byteBit b 0) = b := by
  rw [cfgOpcode_eq_iff] at h
  apply BitVec.eq_of_toNat_eq
  simp only [cfgByte_toNat, byteBit_toNat]
  omega

/-- A byte with the opcode bits of SPEED is assembled from its selector (R304, R310). -/
theorem speedByte_speedField {b : Byte} (h : speedOpcode b = Param.speedGroup) : speedByte (speedField b) = b := by
  rw [speedOpcode_eq_iff] at h
  apply BitVec.eq_of_toNat_eq
  rw [speedByte_toNat, speedField_toNat]
  omega

theorem cfgOpcode_cfgByte (e p h d : Bit) : cfgOpcode (cfgByte e p h d) = Param.cfgGroup := by
  rw [cfgOpcode_eq_iff, cfgByte_toNat]
  omega

theorem speedOpcode_speedByte (r : Rate) : speedOpcode (speedByte r) = Param.speedGroup := by
  rw [speedOpcode_eq_iff, speedByte_toNat]
  omega

/-- The four fields of a CFG byte are the ones it was assembled from (R309). -/
theorem byteBit_cfgByte (e p h d : Bit) :
    byteBit (cfgByte e p h d) 3 = e ∧ byteBit (cfgByte e p h d) 2 = p ∧
    byteBit (cfgByte e p h d) 1 = h ∧ byteBit (cfgByte e p h d) 0 = d := by
  simp only [← BitVec.toNat_inj, byteBit_toNat, cfgByte_toNat]
  omega

theorem speedField_speedByte (r : Rate) : speedField (speedByte r) = r := by
  rw [← BitVec.toNat_inj, speedField_toNat, speedByte_toNat]
  omega

/-! ### The bytes of SPI mode with the parser idle -/

/-- The four command bytes that fix every bit are in neither group (R302, R303, R304). -/
theorem not_fixed_of_group {b : Byte} (h : cfgOpcode b = Param.cfgGroup ∨ speedOpcode b = Param.speedGroup) :
    b ≠ Param.exitBbio ∧ b ≠ Param.csLow ∧ b ≠ Param.csHigh ∧ b ≠ Param.wtr := by
  refine ⟨?_, ?_, ?_, ?_⟩ <;> rintro rfl <;> revert h <;> decide

theorem decodeSpiIdle_cfgByte (e p h d : Bit) : decodeSpiIdle (cfgByte e p h d) = .sCfg e p h d := by
  have hop := cfgOpcode_cfgByte e p h d
  obtain ⟨h0, h2, h3, -⟩ := not_fixed_of_group (.inl hop)
  obtain ⟨he, hp, hh, hd⟩ := byteBit_cfgByte e p h d
  rw [decodeSpiIdle, if_neg h0, if_neg h2, if_neg h3, if_pos hop, he, hp, hh, hd]

theorem decodeSpiIdle_speedByte (r : Rate) : decodeSpiIdle (speedByte r) = .sSpeed r := by
  have hop := speedOpcode_speedByte r
  have hcfg : cfgOpcode (speedByte r) ≠ Param.cfgGroup := by
    rw [ne_eq, cfgOpcode_eq_iff, speedByte_toNat]
    omega
  obtain ⟨h0, h2, h3, -⟩ := not_fixed_of_group (.inr hop)
  rw [decodeSpiIdle, if_neg h0, if_neg h2, if_neg h3, if_neg hcfg, if_pos hop, speedField_speedByte]

theorem decodeSpiIdle_undef {b : Byte} (h : spiDefined b = false) : decodeSpiIdle b = .sUndef b := by
  simp only [spiDefined, Bool.or_eq_false_iff, beq_eq_false_iff_ne] at h
  obtain ⟨⟨⟨⟨⟨h0, h2⟩, h3⟩, h4⟩, hcfg⟩, hspeed⟩ := h
  rw [decodeSpiIdle, if_neg h0, if_neg h2, if_neg h3, if_neg hcfg, if_neg hspeed, if_neg h4]

theorem decodeBbio_undef {b : Byte} (h : bbioDefined b = false) : decodeBbio b = .bUndef b := by
  simp only [bbioDefined, Bool.or_eq_false_iff, beq_eq_false_iff_ne] at h
  obtain ⟨⟨h0, h1⟩, hF⟩ := h
  rw [decodeBbio, if_neg h0, if_neg h1, if_neg hF]

/-! ### Every byte is one row (R307, R315) -/

/-- The instruction is well-formed, and b is the byte whose consumption runs it. -/
def Instr.EndsIn (i : Instr) (b : Byte) : Prop := i.wf = true ∧ lastByte i = b

theorem decodeTerminal_endsIn (b : Byte) : (decodeTerminal b).EndsIn b := by
  unfold decodeTerminal
  split
  case isTrue h => exact ⟨rfl, h.symm⟩
  case isFalse h => exact ⟨by simp [Instr.wf, h], rfl⟩

theorem decodeBbio_endsIn (b : Byte) : (decodeBbio b).EndsIn b := by
  cases hdef : bbioDefined b
  case false =>
    rw [decodeBbio_undef hdef]
    exact ⟨by simp [Instr.wf, hdef], rfl⟩
  case true =>
    simp only [bbioDefined, Bool.or_eq_true, beq_iff_eq] at hdef
    obtain (rfl | rfl) | rfl := hdef <;> exact ⟨rfl, rfl⟩

theorem decodeSpiIdle_endsIn (b : Byte) : (decodeSpiIdle b).EndsIn b := by
  cases hdef : spiDefined b
  case false =>
    rw [decodeSpiIdle_undef hdef]
    exact ⟨by simp [Instr.wf, hdef], rfl⟩
  case true =>
    simp only [spiDefined, Bool.or_eq_true, beq_iff_eq] at hdef
    obtain ((((rfl | rfl) | rfl) | rfl) | hcfg) | hspeed := hdef
    case inl.inr =>
      rw [← cfgByte_byteBit hcfg, decodeSpiIdle_cfgByte]
      exact ⟨rfl, rfl⟩
    case inr =>
      rw [← speedByte_speedField hspeed, decodeSpiIdle_speedByte]
      exact ⟨rfl, rfl⟩
    all_goals exact ⟨rfl, rfl⟩

theorem decodeSpiIdle_eq_sCfg_iff (b : Byte) (e p h d : Bit) :
    decodeSpiIdle b = .sCfg e p h d ↔ b = cfgByte e p h d := by
  constructor
  · intro hb
    have hend : (Instr.sCfg e p h d).EndsIn b := hb ▸ decodeSpiIdle_endsIn b
    exact hend.2.symm
  · rintro rfl
    exact decodeSpiIdle_cfgByte e p h d

theorem decodeSpiIdle_eq_sSpeed_iff (b : Byte) (r : Rate) : decodeSpiIdle b = .sSpeed r ↔ b = speedByte r := by
  constructor
  · intro hb
    have hend : (Instr.sSpeed r).EndsIn b := hb ▸ decodeSpiIdle_endsIn b
    exact hend.2.symm
  · rintro rfl
    exact decodeSpiIdle_speedByte r

theorem decodeSpiIdle_eq_sUndef_iff (b : Byte) : decodeSpiIdle b = .sUndef b ↔ spiDefined b = false := by
  refine ⟨fun hb => ?_, decodeSpiIdle_undef⟩
  have hend : (Instr.sUndef b).EndsIn b := hb ▸ decodeSpiIdle_endsIn b
  exact (Bool.not_eq_true' _).mp hend.1

theorem decodeBbio_eq_bUndef_iff (b : Byte) : decodeBbio b = .bUndef b ↔ bbioDefined b = false := by
  refine ⟨fun hb => ?_, decodeBbio_undef⟩
  have hend : (Instr.bUndef b).EndsIn b := hb ▸ decodeBbio_endsIn b
  exact (Bool.not_eq_true' _).mp hend.1

/-! ### The statements about single bytes -/

/-- Settles O5: a CFG byte is assembled by addition, and CFG is read from the assembled bytes only. -/
theorem cfgByteFields : Obligations.CfgByteFields := by
  refine ⟨fun e p h d => ⟨cfgByte_toNat e p h d, decodeSpiIdle_cfgByte e p h d⟩, fun b => ?_, by decide⟩
  simp only [decodeLink, decodeSpiIdle_eq_sCfg_iff]
  rw [← cfgOpcode_eq_iff]
  constructor
  · rintro ⟨e, p, h, d, rfl⟩
    exact cfgOpcode_cfgByte e p h d
  · intro hb
    exact ⟨_, _, _, _, (cfgByte_byteBit hb).symm⟩

/-- Settles O6: a SPEED byte is assembled by addition, and SPEED is read from the assembled bytes only. -/
theorem speedByteFields : Obligations.SpeedByteFields := by
  refine ⟨fun r => ⟨speedByte_toNat r, decodeSpiIdle_speedByte r⟩, fun b => ?_⟩
  simp only [decodeLink, decodeSpiIdle_eq_sSpeed_iff]
  rw [← speedOpcode_eq_iff]
  constructor
  · rintro ⟨r, rfl⟩
    exact speedOpcode_speedByte r
  · intro hb
    exact ⟨_, (speedByte_speedField hb).symm⟩

/-- Settles O13: the undefined bytes are the complement of R315's lists, and both meanings are the same update. -/
theorem undefinedBytesDesynchronise : Obligations.UndefinedBytesDesynchronise := by
  refine ⟨fun parse b => ?_, fun b => ?_, ?_⟩
  · simp [decodeLink, decodeBbio_eq_bUndef_iff, bbioDefined, Param.entry, Param.spiSelect, Param.resetTerm, and_assoc]
  · simp only [decodeLink, decodeSpiIdle_eq_sUndef_iff, spiDefined, Bool.or_eq_false_iff, beq_eq_false_iff_ne, ne_eq,
      cfgOpcode_eq_iff, speedOpcode_eq_iff, and_assoc]
    rw [and_comm (a := ¬(0x80 ≤ b.toNat ∧ b.toNat ≤ 0x8F))]
    rfl
  · rintro i b s (rfl | rfl) <;> exact ⟨Config.unknownReply s.draws, s.draws + 1, rfl⟩

end Sys2Proof
end

section
/-! PROOF. Frames and ISP payloads (R305, R311 to R316): a frame is read back, an ISP instruction is read from its
payload, and every instruction from its encoding. -/

namespace Sys2Proof

/-! ### The header's counts (R211, R311) -/

theorem count_toNat (hi lo : Byte) : (count hi lo).toNat = 256 * hi.toNat + lo.toNat := by
  have hshift : hi.toNat <<< 8 = 256 * hi.toNat := by rw [Nat.shiftLeft_eq, Nat.mul_comm]
  have hkept : hi.toNat <<< 8 % 2 ^ 16 = hi.toNat <<< 8 := Nat.mod_eq_of_lt (by omega)
  rw [count, BitVec.toNat_or, BitVec.toNat_shiftLeft, BitVec.toNat_setWidth_of_le (by decide),
    BitVec.toNat_setWidth_of_le (by decide), hkept, ← Nat.shiftLeft_add_eq_or_of_lt lo.isLt, hshift]

theorem count_bytes (n : Count) : count (n.extractLsb' 8 8) (n.extractLsb' 0 8) = n := by
  rw [← BitVec.toNat_inj, count_toNat, BitVec.extractLsb'_toNat, BitVec.extractLsb'_toNat, Nat.shiftRight_eq_div_pow]
  omega

/-! ### Whole frames (R305, R311, R316, R319) -/

/-- What the frame decoder makes of a header and any bytes after it. -/
theorem decodeFrame_header (n m : Count) (bs : List Byte) :
    decodeFrame (header n m ++ bs) =
      if n.toNat > Param.wtrMax ∨ m.toNat > Param.wtrMax then .error .countTooLarge
      else if bs.length < n.toNat then .error .truncatedFrame
      else .ok ((m, bs.take n.toNat), bs.drop n.toNat) := by
  simp [header, decodeFrame, count_bytes]

/-- Settles O4: the header's write count is the payload's length, so the decoder cuts the payload off the bytes
that follow. -/
theorem frameReassembles : Obligations.FrameReassembles := by
  intro p m rest hp
  have hn : (BitVec.ofNat 16 p.length).toNat = p.length := Nat.mod_eq_of_lt hp
  rw [frame, List.append_assoc, decodeFrame_header, hn, List.take_left, List.drop_left]
  simp [Param.wtrMax]

/-! ### ISP payloads (R312 to R314, R318) -/

/-- A segment up to 0x3F and an offset are the parts of the address they make (R202, R203). -/
theorem decompose_recompose {segment : Byte} (offset : Byte) (h : segment ≤ maxSegment) :
    decompose ((recompose segment offset).setWidth 15) = (segment, offset) := by
  have hr := recompose_toNat offset h
  have hw : ((recompose segment offset).setWidth 15).toNat = 256 * segment.toNat + offset.toNat := by
    rw [BitVec.toNat_setWidth_of_le (by decide), hr]
  have hseg := decompose_segment_toNat ((recompose segment offset).setWidth 15)
  have hoff := decompose_offset_toNat ((recompose segment offset).setWidth 15)
  have h1 : (decompose ((recompose segment offset).setWidth 15)).1 = segment := BitVec.eq_of_toNat_eq (by omega)
  have h2 : (decompose ((recompose segment offset).setWidth 15)).2 = offset := BitVec.eq_of_toNat_eq (by omega)
  exact Prod.ext h1 h2

/-- A word address is made of its parts, and its segment is one that recompose is defined for (R202, R203). -/
theorem recompose_decompose (a : WordAddr) :
    (decompose (a.setWidth 15)).1 ≤ maxSegment ∧
    recompose (decompose (a.setWidth 15)).1 (decompose (a.setWidth 15)).2 = a := by
  have hw : (a.setWidth 15).toNat = a.toNat := BitVec.toNat_setWidth_of_le (by decide)
  have hseg := decompose_segment_toNat (a.setWidth 15)
  have hoff := decompose_offset_toNat (a.setWidth 15)
  have hmax : (decompose (a.setWidth 15)).1.toNat ≤ maxSegment.toNat := by
    have : maxSegment.toNat = 63 := rfl
    omega
  refine ⟨hmax, BitVec.eq_of_toNat_eq ?_⟩
  rw [recompose_toNat _ hmax]
  omega

theorem decodeIsp_flashPayload (a : WordAddr) :
    decodeIsp (flashPayload rdlOpcode (a.setWidth 15)) oneRead = .ok (.ispRdl a) ∧
    decodeIsp (flashPayload rdhOpcode (a.setWidth 15)) oneRead = .ok (.ispRdh a) := by
  obtain ⟨hmax, ha⟩ := recompose_decompose a
  simp [flashPayload, decodeIsp, hmax, ha, rsigOpcode, rdlOpcode, rdhOpcode]

theorem decodeIsp_rsigPayload {i : BitVec 2} (h : i ≠ 3) :
    decodeIsp (rsigPayload (i.setWidth 8)) oneRead = .ok (.ispRsig i) := by
  decide +revert

/-- A signature index sent as a byte (R312, R314). -/
theorem sigIndex_byte {b : Byte} (h : b.toNat < 3) : b.setWidth 2 ≠ 3 ∧ (b.setWidth 2).setWidth 8 = b := by
  have hw : (b.setWidth 2).toNat = b.toNat := by rw [BitVec.toNat_setWidth]; omega
  refine ⟨fun h3 => ?_, BitVec.eq_of_toNat_eq ?_⟩
  · have : b.toNat = 3 := hw.symm.trans (congrArg BitVec.toNat h3)
    omega
  · rw [BitVec.toNat_setWidth_of_le (by decide), hw]

/-- The payloads of the four ISP instructions are exactly what the ISP decoder reads, each as the instruction
that carries it; any other payload is reserved (R312, R318). -/
theorem decodeIsp_eq_ok_iff (p : List Byte) (m : Count) (i : Instr) :
    decodeIsp p m = .ok i ↔ i.wf = true ∧ ispFrame i = some (p, m) := by
  constructor
  · intro h
    unfold decodeIsp at h
    split at h
    case h_1 b0 b1 b2 b3 =>
      split at h <;> cases h
      case isTrue hp => exact ⟨rfl, by rw [hp.1, hp.2]; rfl⟩
    case h_2 b0 b1 b2 =>
      split at h
      case isTrue => cases h
      case isFalse hm =>
        obtain rfl := not_not.mp hm
        repeat' split at h
        all_goals cases h
        case isTrue hsig =>
          obtain ⟨rfl, rfl, hi⟩ := hsig
          obtain ⟨hne, hk⟩ := sigIndex_byte hi
          exact ⟨bne_iff_ne.mpr hne, by rw [ispFrame, hk]; rfl⟩
        case isFalse.isTrue hl =>
          obtain ⟨rfl, hseg⟩ := hl
          exact ⟨rfl, by rw [ispFrame, flashPayload, decompose_recompose b2 hseg]⟩
        case isFalse.isFalse.isTrue hh =>
          obtain ⟨rfl, hseg⟩ := hh
          exact ⟨rfl, by rw [ispFrame, flashPayload, decompose_recompose b2 hseg]⟩
    case h_3 => cases h
  · rintro ⟨hwf, hi⟩
    cases i with
    | ispPe => cases hi; rfl
    | ispRsig k => cases hi; exact decodeIsp_rsigPayload (by simpa [Instr.wf] using hwf)
    | ispRdl a => cases hi; exact (decodeIsp_flashPayload a).1
    | ispRdh a => cases hi; exact (decodeIsp_flashPayload a).2
    | _ => cases hi

/-! ### The encoding of an ISP instruction (R305, R311, R312) -/

section
variable {i : Instr} {p : List Byte} {m : Count}

theorem encode_of_ispFrame (h : ispFrame i = some (p, m)) : encode i = frame p m := by
  cases i <;> cases h <;> rfl

theorem context_of_ispFrame (h : ispFrame i = some (p, m)) : i.context = lastByteContext p m := by
  cases i <;> cases h <;> rfl

/-- The counts of an ISP frame are within WTR_MAX, and it has a last payload byte (R312, R316). -/
theorem ispFrame_bounds (h : ispFrame i = some (p, m)) : 0 < p.length ∧ p.length ≤ 4 ∧ m.toNat ≤ 4 := by
  cases i <;> cases h <;> simp [pePayload, rsigPayload, flashPayload, peReads, oneRead]

theorem lastByte_of_ispFrame (h : ispFrame i = some (p, m)) (hp : p ≠ []) : lastByte i = p.getLast hp := by
  rw [lastByte, encode_of_ispFrame h, frame, List.getLastD_eq_getLast?, List.getLast?_append_of_ne_nil _ hp,
    List.getLast?_eq_some_getLast hp, Option.getD_some]

/-- A decoder that holds an ISP frame but for its last byte reads that byte as the instruction. -/
theorem decodePayload_lastByte (hwf : i.wf = true) (h : ispFrame i = some (p, m)) :
    decodePayload (BitVec.ofNat 16 p.length) m p.dropLast (lastByte i) = i := by
  obtain ⟨hpos, hmax, -⟩ := ispFrame_bounds h
  have hp : p ≠ [] := List.ne_nil_of_length_pos hpos
  have hlen : p.dropLast.length + 1 = (BitVec.ofNat 16 p.length).toNat := by
    rw [List.length_dropLast, BitVec.toNat_ofNat, Nat.mod_eq_of_lt (by omega)]
    omega
  rw [decodePayload, if_pos hlen, lastByte_of_ispFrame h hp, List.dropLast_append_getLast,
    (decodeIsp_eq_ok_iff p m i).mpr ⟨hwf, h⟩]

theorem decodeIspFrame_encode (hwf : i.wf = true) (h : ispFrame i = some (p, m)) (rest : List Byte) :
    decodeIspFrame (encode i ++ rest) = .ok (i, rest) := by
  obtain ⟨-, hp, hm⟩ := ispFrame_bounds h
  have hframe : decodeFrame (frame p m ++ rest) = .ok ((m, p), rest) := by
    rw [frameReassembles p m rest (by omega), if_neg (by omega)]
  rw [decodeIspFrame, encode_of_ispFrame h, hframe]
  simp only [(decodeIsp_eq_ok_iff p m i).mpr ⟨hwf, h⟩]

end

/-- A link command is its one byte (R302 to R304). -/
theorem encode_link {i : Instr} (h : ispFrame i = none) : encode i = [lastByte i] := by
  cases i with
  | ispPe | ispRsig | ispRdl | ispRdh => cases h
  | _ => rfl

/-- Every link command is read from its byte, in its mode and parser state (R307). -/
theorem decodeLink_lastByte {i : Instr} (hwf : i.wf = true) (h : ispFrame i = none) :
    decodeLink i.context.1 i.context.2 (lastByte i) = i := by
  cases i with
  | ispPe | ispRsig | ispRdl | ispRdh => cases h
  | tOther b => exact if_neg (bne_iff_ne.mp hwf)
  | bUndef b => exact decodeBbio_undef ((Bool.not_eq_true' _).mp hwf)
  | sUndef b => exact decodeSpiIdle_undef ((Bool.not_eq_true' _).mp hwf)
  | sCfg e p cpha d => exact decodeSpiIdle_cfgByte e p cpha d
  | sSpeed r => exact decodeSpiIdle_speedByte r
  | tEntry | bEntry | bSpiSelect | bResetTerm | sExitBbio | sCsLow | sCsHigh | sWtr | sWtrHdr | sWtrData | xAny => rfl

/-- Settles O2: a link command is one byte, and an ISP instruction is the frame of its payload. -/
theorem encodeThenDecodeGivesTheInstruction : Obligations.EncodeThenDecodeGivesTheInstruction := by
  intro i hwf
  cases h : ispFrame i with
  | none => exact ⟨decodeLink_lastByte hwf h, fun _ => encode_link h, fun hne => absurd rfl hne⟩
  | some f =>
    obtain ⟨p, m⟩ := f
    refine ⟨?_, nofun, fun _ => decodeIspFrame_encode hwf h⟩
    rw [context_of_ispFrame h]
    exact decodePayload_lastByte hwf h

/-- A payload byte is read as S.WTR_DATA, or as the instruction whose payload it ends (R307, R312). -/
theorem decodePayload_endsIn (n m : Count) (acc : List Byte) (b : Byte) : (decodePayload n m acc b).EndsIn b := by
  unfold decodePayload
  split
  case isFalse => exact ⟨rfl, rfl⟩
  case isTrue =>
    split
    case h_2 => exact ⟨rfl, rfl⟩
    case h_1 i hi =>
      obtain ⟨hwf, hf⟩ := (decodeIsp_eq_ok_iff _ m i).mp hi
      exact ⟨hwf, by simp [lastByte_of_ispFrame hf]⟩

/-- Settles O3: by mode and parser state, as R307 orders its rows. -/
theorem everyByteIsOneWellFormedInstruction : Obligations.EveryByteIsOneWellFormedInstruction := by
  intro mode parse b
  cases mode with
  | terminal => exact decodeTerminal_endsIn b
  | bbio => exact decodeBbio_endsIn b
  | spi =>
    cases parse with
    | idle => exact decodeSpiIdle_endsIn b
    | hdr k acc => exact ⟨rfl, rfl⟩
    | data n m acc => exact decodePayload_endsIn n m acc b
  | desync => exact ⟨rfl, rfl⟩

/-- Settles O1: the sixteen bytes and the four frames, decoded. -/
theorem knownWordsDecode : Obligations.KnownWordsDecode := by
  unfold Obligations.KnownWordsDecode
  decide

/-! ### The pseudo-instructions (R322) -/

theorem addrHigh_eq (a : WordAddr) : Asm.addrHigh a = (decompose (a.setWidth 15)).1 := by
  apply BitVec.eq_of_toNat_eq
  rw [decompose_segment_toNat, Asm.addrHigh, BitVec.toNat_setWidth, BitVec.toNat_ushiftRight,
    Nat.shiftRight_eq_div_pow, BitVec.toNat_setWidth_of_le (by decide)]
  omega

theorem addrLow_eq (a : WordAddr) : Asm.addrLow a = (decompose (a.setWidth 15)).2 := by
  apply BitVec.eq_of_toNat_eq
  have hmask : (0xFF : WordAddr).toNat = 2 ^ 8 - 1 := rfl
  rw [decompose_offset_toNat, Asm.addrLow, BitVec.toNat_setWidth, BitVec.toNat_and, hmask,
    Nat.and_two_pow_sub_one_eq_mod, BitVec.toNat_setWidth_of_le (by decide), Nat.mod_mod]

/-- Settles O8: each expansion is the frame, or the bytes, of what it names. -/
theorem pseudoInstructionsExpand : Obligations.PseudoInstructionsExpand := by
  refine ⟨rfl, fun i => rfl, fun a => ⟨?_, ?_⟩, rfl, fun k => ?_⟩
  · simp only [Asm.bytes, Asm.expand, addrHigh_eq, addrLow_eq]; rfl
  · simp only [Asm.bytes, Asm.expand, addrHigh_eq, addrLow_eq]; rfl
  · simp [Asm.bytes, Asm.expand, List.flatMap_replicate, Asm.commandBytes, Param.entry]

end Sys2Proof
end

section
/-! PROOF. A frame fed to DEC byte by byte (R311, R316, R416 to R418): the header is consumed as a whole, and the
payload runs one transfer. -/

namespace Sys2Proof.Machine

variable {s : State}

@[simp] theorem State.setParse_setParse (s : State) (p q : Parse) : (s.setParse p).setParse q = s.setParse q := rfl

theorem State.setParse_self {p : Parse} (h : s.dec.parse = p) : s.setParse p = s := by
  rw [← h]
  rfl

theorem consumeAll_cons_next {b : Byte} {bs : List Byte} {t : State} (h : consume b s = .next t) :
    consumeAll (b :: bs) s = consumeAll bs t := by
  rw [consumeAll, h, andThen]

/-- A completed frame writes the parser, whatever state it stood in. -/
@[simp] theorem completeFrame_setParse (p : List Byte) (m : Count) (q : Parse) :
    completeFrame p m (s.setParse q) = completeFrame p m s := rfl

theorem completeFrame_of_idle (p : List Byte) (m : Count) (hp : s.dec.parse = .idle) :
    completeFrame p m s = wtrExecute p m.toNat s := by
  rw [completeFrame, State.setParse_self hp]

@[simp] theorem acceptHeader_setParse (n m : Count) (q : Parse) :
    acceptHeader n m (s.setParse q) = acceptHeader n m s := by
  simp only [acceptHeader, State.setParse_setParse, completeFrame_setParse]

/-- In SPI mode the parser state selects how a byte is read (R307, R400). -/
theorem consume_setParse (q : Parse) (b : Byte) (hm : s.dec.mode = .spi) :
    consume b (s.setParse q) = exec (decodeLink .spi q b) (s.setParse q) := by
  rw [consume, State.decodes, State.setParse_dec_mode, State.setParse_dec_parse, hm]

/-! ### The header (R416, R417) -/

/-- The header's bytes are the quotients and remainders by 256 of its counts (R211, R311). -/
theorem header_ofNat (n m : Nat) : header (BitVec.ofNat 16 n) (BitVec.ofNat 16 m) =
    [0x04, BitVec.ofNat 8 (n / 256), BitVec.ofNat 8 (n % 256),
      BitVec.ofNat 8 (m / 256), BitVec.ofNat 8 (m % 256)] := by
  have hhi (k : Nat) : (BitVec.ofNat 16 k).extractLsb' 8 8 = BitVec.ofNat 8 (k / 256) := by
    apply BitVec.eq_of_toNat_eq
    rw [BitVec.extractLsb'_toNat, Nat.shiftRight_eq_div_pow, BitVec.toNat_ofNat, BitVec.toNat_ofNat]
    omega
  have hlo (k : Nat) : (BitVec.ofNat 16 k).extractLsb' 0 8 = BitVec.ofNat 8 (k % 256) := by
    apply BitVec.eq_of_toNat_eq
    rw [BitVec.extractLsb'_toNat, Nat.shiftRight_zero, BitVec.toNat_ofNat, BitVec.toNat_ofNat]
    omega
  rw [header, hhi, hlo, hhi, hlo, Param.wtr]

theorem consume_wtr (hm : s.dec.mode = .spi) (hp : s.dec.parse = .idle) :
    consume Param.wtr s = .next (s.setParse (.hdr 0 [])) := by
  rw [← State.setParse_self hp, consume_setParse _ _ hm]
  rfl

theorem consume_hdr {k : Nat} (acc : List Byte) (b : Byte) (hm : s.dec.mode = .spi) (hk : k + 1 < 4) :
    consume b (s.setParse (.hdr k acc)) = .next (s.setParse (.hdr (k + 1) (acc ++ [b]))) := by
  rw [consume_setParse _ b hm]
  exact if_pos hk

theorem consume_hdr_last (n1 n0 m1 m0 : Byte) (hm : s.dec.mode = .spi) :
    consume m0 (s.setParse (.hdr 3 [n1, n0, m1])) = .next (acceptHeader (count n1 n0) (count m1 m0) s) := by
  rw [consume_setParse _ m0 hm, ← acceptHeader_setParse _ _ (.hdr 3 [n1, n0, m1])]
  rfl

/-- A frame's five header bytes leave DEC where the completed header takes it (R417). -/
theorem consumeAll_header (n m : Count) (bs : List Byte) (hm : s.dec.mode = .spi) (hp : s.dec.parse = .idle) :
    consumeAll (header n m ++ bs) s = consumeAll bs (acceptHeader n m s) := by
  have hlast := consume_hdr_last (n.extractLsb' 8 8) (n.extractLsb' 0 8) (m.extractLsb' 8 8) (m.extractLsb' 0 8) hm
  rw [count_bytes, count_bytes] at hlast
  simp only [header, List.cons_append, List.nil_append]
  rw [consumeAll_cons_next (consume_wtr hm hp), consumeAll_cons_next (consume_hdr _ _ hm (by decide)),
    consumeAll_cons_next (consume_hdr _ _ hm (by decide)), consumeAll_cons_next (consume_hdr _ _ hm (by decide))]
  exact consumeAll_cons_next hlast

/-! ### The payload (R418) -/

/-- A payload byte that is not the last is kept, and does nothing else. -/
theorem consume_payload_kept {n : Count} (m : Count) {acc : List Byte} (b : Byte) (hm : s.dec.mode = .spi)
    (hn : acc.length + 1 ≠ n.toNat) :
    consume b (s.setParse (.data n m acc)) = .next (s.setParse (.data n m (acc ++ [b]))) := by
  rw [consume_setParse _ b hm, decodeLink, decodePayload, if_neg hn]
  simp [exec, execSWtrData, hn]

/-- The last payload byte completes the frame, whichever instruction it is read as (R307, R418). -/
theorem consume_payload_last {n : Count} (m : Count) {acc : List Byte} (b : Byte) (hm : s.dec.mode = .spi)
    (hn : acc.length + 1 = n.toNat) :
    consume b (s.setParse (.data n m acc)) = .next (completeFrame (acc ++ [b]) m s) := by
  rw [consume_setParse _ b hm, decodeLink, decodePayload, if_pos hn]
  split
  case h_1 i hi => rw [exec_ispFrame ((decodeIsp_eq_ok_iff _ m i).mp hi).2, completeFrame_setParse]
  case h_2 => simp [exec, execSWtrData, hn]

/-- The rest of a payload is kept byte by byte, and its last byte runs the transfer of the whole. -/
theorem consumeAll_payload (n m : Count) (bs acc : List Byte) (hm : s.dec.mode = .spi) (hbs : bs ≠ [])
    (hn : acc.length + bs.length = n.toNat) :
    consumeAll bs (s.setParse (.data n m acc)) = .next (completeFrame (acc ++ bs) m s) := by
  induction bs generalizing acc with
  | nil => exact absurd rfl hbs
  | cons b rest ih =>
    simp only [List.length_cons] at hn
    cases rest with
    | nil => rw [consumeAll_cons_next (consume_payload_last m b hm hn), consumeAll]
    | cons c rest =>
      rw [List.length_cons] at hn
      have hkept : acc.length + 1 ≠ n.toNat := by omega
      have hlen : (acc ++ [b]).length + (c :: rest).length = n.toNat := by
        rw [List.length_append, List.length_singleton, List.length_cons]
        omega
      rw [consumeAll_cons_next (consume_payload_kept m b hm hkept), ih (acc ++ [b]) (List.cons_ne_nil _ _) hlen,
        List.append_assoc, List.singleton_append]

/-- Settles O25: the header is consumed as a whole, and the completed header is refused. -/
theorem oversizedHeaderIsRefused : Obligations.OversizedHeaderIsRefused := by
  intro n m s hm hp hn hm16 hmax
  have hcounts : Param.wtrMax < (BitVec.ofNat 16 n).toNat ∨ Param.wtrMax < (BitVec.ofNat 16 m).toNat := by
    rwa [BitVec.toNat_ofNat, BitVec.toNat_ofNat, Nat.mod_eq_of_lt hn, Nat.mod_eq_of_lt hm16]
  rw [← header_ofNat, ← List.append_nil (header _ _), consumeAll_header _ _ [] hm hp, acceptHeader, if_pos hcounts,
    State.setParse_self hp]
  rfl

/-- Settles O24: the completed header runs the transfer of an empty payload at once, and otherwise the payload's
last byte runs it. -/
theorem wholeFrameRunsOneTransfer : Obligations.WholeFrameRunsOneTransfer := by
  intro p m s hm hp hlen hmax
  have hn : (BitVec.ofNat 16 p.length).toNat = p.length := Nat.mod_eq_of_lt (by omega)
  have hreads : (BitVec.ofNat 16 m).toNat = m := Nat.mod_eq_of_lt (by omega)
  have hcounts : ¬ (Param.wtrMax < (BitVec.ofNat 16 p.length).toNat ∨ Param.wtrMax < (BitVec.ofNat 16 m).toNat) := by
    rw [hn, hreads, Param.wtrMax]
    omega
  rw [← header_ofNat, consumeAll_header _ _ p hm hp, acceptHeader, if_neg hcounts]
  by_cases hnil : p = []
  · subst hnil
    rw [if_pos (show BitVec.ofNat 16 [].length = 0 from rfl), consumeAll, completeFrame_of_idle _ _ hp, hreads]
  · have hne : BitVec.ofNat 16 p.length ≠ 0 := by
      intro h0
      rw [h0] at hn
      exact hnil (List.eq_nil_of_length_eq_zero hn.symm)
    rw [if_neg hne, consumeAll_payload _ _ p [] hm hnil (by rw [hn, List.length_nil, Nat.zero_add]),
      completeFrame_of_idle _ _ hp, hreads, List.nil_append]

end Sys2Proof.Machine
end

section
/-! PROOF. DEC's commands (R401 to R421), each as the update of the state it is: how its byte is read and the whole
next state. -/

namespace Sys2Proof.Machine

variable {s : State}

/-! ### T.ENTRY (R401) -/

/-- Below the threshold T.ENTRY only counts. -/
theorem exec_tEntry_counts (h : s.dec.entryRun + 1 < Config.entryThreshold) : exec .tEntry s =
    .next ((s.setEntryRun (s.dec.entryRun + 1)).reply (Config.terminalOutput s.draws)).tick :=
  congrArg _ (if_neg (Nat.not_le.mpr h))

/-- At the threshold T.ENTRY enters BBIO. -/
theorem exec_tEntry_opens (h : Config.entryThreshold ≤ s.dec.entryRun + 1) : exec .tEntry s =
    .next (((s.setMode .bbio).setEntryRun 0).reply (Config.terminalOutput s.draws ++ Param.ackBbio)).tick :=
  congrArg _ (if_pos h)

/-- Settles O9: the run is at the threshold or below it. -/
theorem terminalEntry : Obligations.TerminalEntry := by
  refine ⟨fun parse => rfl, fun s => ⟨Config.terminalOutput s.draws, s.draws + 1, ?_⟩⟩
  split
  case isTrue h => exact exec_tEntry_opens h
  case isFalse h => exact exec_tEntry_counts (Nat.not_le.mp h)

/-! ### The commands that are one update in every state -/

/-- Settles O10: the registers and the reply are the draws at the present counter. -/
theorem terminalOther : Obligations.TerminalOther :=
  ⟨fun _ _ hb => if_neg hb, fun _ s => ⟨Config.spiRegisters s.draws, Config.terminalOutput s.draws, s.draws + 1, rfl⟩⟩

/-- Settles O11: both bytes are read whatever the parser, and both commands are their updates by definition. -/
theorem bbioEntryAndSpiSelect : Obligations.BbioEntryAndSpiSelect :=
  ⟨fun _ => ⟨rfl, rfl⟩, fun _ => ⟨rfl, rfl⟩⟩

/-- Settles O12: the reply is the draw at the present counter. -/
theorem resetTermReturnsToTerminal : Obligations.ResetTermReturnsToTerminal :=
  ⟨fun _ => rfl, fun s => ⟨Config.unknownReply s.draws, s.draws + 1, rfl⟩⟩

/-- Settles O14: the command is its update by definition. -/
theorem exitBbioReleasesChipSelect : Obligations.ExitBbioReleasesChipSelect :=
  ⟨rfl, fun _ => rfl⟩

/-- Settles O15: both commands are their updates by definition. -/
theorem chipSelectCommands : Obligations.ChipSelectCommands :=
  ⟨rfl, rfl, fun _ => ⟨rfl, rfl⟩⟩

/-- Settles O17: the command is its update by definition. -/
theorem wtrOpcodeBeginsTheHeader : Obligations.WtrOpcodeBeginsTheHeader :=
  ⟨rfl, fun _ => rfl⟩

/-! ### S.CFG and S.SPEED (R414, R415) -/

theorem byteBit_eq_ofBool (b : Byte) (k : Nat) : byteBit b k = BitVec.ofBool (b.getLsbD k) := by
  rw [← BitVec.toNat_inj, byteBit_toNat, BitVec.toNat_ofBool, BitVec.getLsbD, Nat.toNat_testBit]

theorem speedField_eq_ofNat (b : Byte) : speedField b = BitVec.ofNat 3 (b.toNat % 8) := by
  rw [← BitVec.toNat_inj, speedField_toNat, BitVec.toNat_ofNat]
  omega

/-- Settles O16: a byte of either range has the group's opcode bits, so it is assembled from its own fields. -/
theorem configurationCommands : Obligations.ConfigurationCommands := by
  refine ⟨fun b hlo hhi => ?_, fun b hlo hhi => ?_, fun e p h d s => rfl, fun r s => rfl⟩
  · have hop : cfgOpcode b = Param.cfgGroup := (cfgOpcode_eq_iff b).mpr ⟨hlo, hhi⟩
    simp only [← byteBit_eq_ofBool]
    exact (decodeSpiIdle_eq_sCfg_iff b _ _ _ _).mpr (cfgByte_byteBit hop).symm
  · have hop : speedOpcode b = Param.speedGroup := (speedOpcode_eq_iff b).mpr ⟨hlo, hhi⟩
    rw [← speedField_eq_ofNat]
    exact (decodeSpiIdle_eq_sSpeed_iff b _).mpr (speedByte_speedField hop).symm

/-! ### X.ANY (R421) -/

/-- Without the draw that resynchronises, or for any byte but 0x00, X.ANY only draws. -/
theorem exec_xAny_stays {b : Byte} (h : ¬(b = Param.entry ∧ Config.resync s.draws = true)) : exec (.xAny b) s =
    .next (((s.setSpi (Config.spiRegisters s.draws)).logExchanges (Config.desyncExchanges s.draws)).reply
      (Config.unknownReply s.draws)).tick :=
  congrArg _ (if_neg h)

/-- With that draw 0x00 leads to BBIO. -/
theorem exec_xAny_resyncs {b : Byte} (h : b = Param.entry ∧ Config.resync s.draws = true) : exec (.xAny b) s =
    .next ((((s.setSpi (Config.spiRegisters s.draws)).logExchanges (Config.desyncExchanges s.draws)).setMode
      .bbio).reply (Config.unknownReply s.draws ++ Param.ackBbio)).tick :=
  congrArg _ (if_pos h)

/-- Settles O21: every drawn part is the draw at the present counter, and the byte resynchronises or not. -/
theorem desyncByte : Obligations.DesyncByte := by
  refine ⟨fun parse b => rfl, fun b s => ⟨Config.spiRegisters s.draws, Config.desyncExchanges s.draws,
    Config.unknownReply s.draws, Config.resync s.draws, s.draws + 1, ?_⟩⟩
  dsimp only
  split
  case isTrue h => exact exec_xAny_resyncs h
  case isFalse h => exact exec_xAny_stays h

end Sys2Proof.Machine
end

section
/-! PROOF. The bytes of a frame (R417, R418, R824): what each header and payload byte does, in every state with
the parser there. -/

namespace Sys2Proof.Machine

variable {s : State}

/-! ### Header bytes (R417) -/

theorem exec_sWtrHdr_kept {k : Nat} {acc : List Byte} (b : Byte) (hp : s.dec.parse = .hdr k acc) (hk : k + 1 < 4) :
    exec (.sWtrHdr b) s = .next (s.setParse (.hdr (k + 1) (acc ++ [b]))) := by
  simp only [exec, execSWtrHdr, hp, if_pos hk]

theorem exec_sWtrHdr_last {k : Nat} {n1 n0 m1 : Byte} (m0 : Byte) (hp : s.dec.parse = .hdr k [n1, n0, m1])
    (hk : 3 ≤ k) : exec (.sWtrHdr m0) s = .next (acceptHeader (count n1 n0) (count m1 m0) s) := by
  have hk' : ¬ k + 1 < 4 := by omega
  simp only [exec, execSWtrHdr, hp, if_neg hk', List.cons_append, List.nil_append]

/-- What a completed header does, by the values of its counts (R311, R316). -/
theorem acceptHeader_eq (n m : Count) (s : State) : acceptHeader n m s =
    if 4096 < n.toNat ∨ 4096 < m.toNat then (s.setParse .idle).reply [0x00]
    else if n.toNat = 0 then wtrExecute [] m.toNat (s.setParse .idle)
    else s.setParse (.data (BitVec.ofNat 16 n.toNat) (BitVec.ofNat 16 m.toNat) []) := by
  have hzero : n = 0 ↔ n.toNat = 0 := BitVec.toNat_inj.symm
  simp only [acceptHeader, hzero, BitVec.ofNat_toNat, BitVec.setWidth_eq]
  rfl

/-- Settles O18: a byte before the fourth is kept, and the fourth completes the two counts. -/
theorem headerBytes : Obligations.HeaderBytes := by
  refine ⟨fun k acc b => rfl, fun b k acc s hp hk => exec_sWtrHdr_kept b hp hk, fun h1 h2 h3 h4 k s hp hk => ?_⟩
  rw [exec_sWtrHdr_last h4 hp hk, acceptHeader_eq, count_toNat, count_toNat]
  rfl

/-! ### Payload bytes (R418) -/

/-- A payload byte completes the frame or is kept. -/
theorem exec_sWtrData {n m : Count} {acc : List Byte} (b : Byte) (hp : s.dec.parse = .data n m acc) :
    exec (.sWtrData b) s = .next (if acc.length + 1 = n.toNat then completeFrame (acc ++ [b]) m s
      else s.setParse (.data n m (acc ++ [b]))) := by
  simp only [exec, execSWtrData, hp, List.length_append, List.length_singleton]

/-- A payload byte read as an ISP instruction does what S.WTR_DATA does there (R312, R418). -/
theorem exec_decodePayload {n m : Count} {acc : List Byte} (b : Byte) (hp : s.dec.parse = .data n m acc) :
    exec (decodePayload n m acc b) s = exec (.sWtrData b) s := by
  unfold decodePayload
  split
  case isTrue hn =>
    split
    case h_1 i hi =>
      have hframe := ((decodeIsp_eq_ok_iff _ m i).mp hi).2
      rw [exec_ispFrame hframe, exec_sWtrData b hp, if_pos hn]
    case h_2 => rfl
  case isFalse => rfl

/-- Settles O19: the two meanings of a payload byte agree, and that of S.WTR_DATA is R418's. -/
theorem payloadBytes : Obligations.PayloadBytes := by
  intro b n m acc s hp
  have hdata := exec_sWtrData b hp
  exact ⟨hdata, (exec_decodePayload b hp).trans hdata⟩

/-- Payload bytes short of the count are kept, one after another. -/
theorem consumeAll_payload_kept (n m : Count) (bs acc : List Byte) (hm : s.dec.mode = .spi)
    (hn : acc.length + bs.length < n.toNat) :
    consumeAll bs (s.setParse (.data n m acc)) = .next (s.setParse (.data n m (acc ++ bs))) := by
  induction bs generalizing acc with
  | nil => rw [consumeAll, List.append_nil]
  | cons b rest ih =>
    rw [List.length_cons] at hn
    have hrest : (acc ++ [b]).length + rest.length < n.toNat := by
      rw [List.length_append, List.length_singleton]
      omega
    rw [consumeAll_cons_next (consume_payload_kept m b hm (by omega)), ih (acc ++ [b]) hrest, List.append_assoc,
      List.singleton_append]

/-- Settles O26: the bytes are kept, by induction over them. -/
theorem unfinishedFrameSwallowsBytes : Obligations.UnfinishedFrameSwallowsBytes := by
  intro bs acc n m s hm hp hn
  have hkept := consumeAll_payload_kept n m bs acc hm hn
  rwa [State.setParse_self hp] at hkept

end Sys2Proof.Machine
end

section
/-! PROOF. The mode after a byte (R423), mode by mode. -/

namespace Sys2Proof.Machine

variable {s t : State} {b : Byte}

theorem consumeTerminal_mode (hm : s.dec.mode = .terminal) (h : exec (decodeTerminal b) s = .next t) :
    t.dec.mode = if b = 0x00 ∧ Config.entryThreshold ≤ s.dec.entryRun + 1 then .bbio else .terminal := by
  by_cases hb : b = Param.entry
  case pos =>
    subst hb
    by_cases hrun : Config.entryThreshold ≤ s.dec.entryRun + 1
    · cases (exec_tEntry_opens hrun).symm.trans h
      exact (if_pos ⟨rfl, hrun⟩).symm
    · cases (exec_tEntry_counts (Nat.not_le.mp hrun)).symm.trans h
      exact hm.trans (if_neg fun hand => hrun hand.2).symm
  case neg =>
    rw [decodeTerminal, if_neg hb] at h
    cases h
    exact hm.trans (if_neg fun hand => hb hand.1).symm

theorem consumeBbio_mode (hm : s.dec.mode = .bbio) (h : exec (decodeBbio b) s = .next t) :
    t.dec.mode = if b = 0x00 then .bbio else if b = 0x01 then .spi else if b = 0x0F then .terminal else .desync := by
  cases hdef : bbioDefined b
  case false =>
    rw [decodeBbio_undef hdef] at h
    cases h
    simp only [bbioDefined, Bool.or_eq_false_iff, beq_eq_false_iff_ne] at hdef
    obtain ⟨⟨h0, h1⟩, hF⟩ := hdef
    exact ((if_neg h0).trans ((if_neg h1).trans (if_neg hF))).symm
  case true =>
    simp only [bbioDefined, Bool.or_eq_true, beq_iff_eq] at hdef
    obtain (rfl | rfl) | rfl := hdef <;> cases h
    · exact hm
    · rfl
    · rfl

/-- With the parser idle a byte that SPI mode defines keeps the mode, but for 0x00 (R411 to R416, R419). -/
theorem consumeSpiIdle_mode (hm : s.dec.mode = .spi) (h : exec (decodeSpiIdle b) s = .next t) :
    t.dec.mode = if b = 0x00 then .bbio else if spiDefined b = true then .spi else .desync := by
  cases hdef : spiDefined b
  case false =>
    have h0 : b ≠ 0x00 := by
      rintro rfl
      cases hdef
    rw [decodeSpiIdle_undef hdef] at h
    cases h
    exact (if_neg h0).symm
  case true =>
    simp only [spiDefined, Bool.or_eq_true, beq_iff_eq] at hdef
    obtain ((((rfl | rfl) | rfl) | rfl) | hcfg) | hspeed := hdef
    case inl.inr =>
      have h0 : b ≠ 0x00 := (not_fixed_of_group (.inl hcfg)).1
      rw [← cfgByte_byteBit hcfg, decodeSpiIdle_cfgByte] at h
      cases h
      exact hm.trans (if_neg h0).symm
    case inr =>
      have h0 : b ≠ 0x00 := (not_fixed_of_group (.inr hspeed)).1
      rw [← speedByte_speedField hspeed, decodeSpiIdle_speedByte] at h
      cases h
      exact hm.trans (if_neg h0).symm
    case inl.inl.inl.inl.inl => cases h; rfl
    all_goals cases h; exact hm

/-- The bytes SPI mode defines, by their values (R315). -/
theorem spiDefined_iff (b : Byte) (h0 : b ≠ 0x00) : spiDefined b = true ↔
    b = 0x02 ∨ b = 0x03 ∨ b = 0x04 ∨ (0x60 ≤ b.toNat ∧ b.toNat ≤ 0x67) ∨ (0x80 ≤ b.toNat ∧ b.toNat ≤ 0x8F) := by
  have hexit : b ≠ Param.exitBbio := h0
  simp only [spiDefined, Bool.or_eq_true, beq_iff_eq, cfgOpcode_eq_iff, speedOpcode_eq_iff, hexit, false_or, or_assoc]
  rw [or_comm (a := 0x80 ≤ b.toNat ∧ b.toNat ≤ 0x8F)]
  rfl

/-- A frame that moves on stays in its mode. -/
theorem FrameMove.mode_eq (h : FrameMove s t) : t.dec.mode = s.dec.mode := by
  obtain ⟨p, l, r, rfl, -⟩ := h
  rfl

/-- Every byte read inside a frame moves it on (R307). -/
theorem exec_frameByte (hp : s.dec.parse ≠ .idle) (h : exec (decodeLink .spi s.dec.parse b) s = .next t) :
    FrameMove s t := by
  cases hparse : s.dec.parse <;> rw [hparse] at h
  case idle => exact absurd hparse hp
  case hdr => exact exec_frameMove (.inl ⟨b, .inl rfl⟩) h
  case data n m acc =>
    have hdata := (exec_decodePayload b hparse).symm.trans h
    exact exec_frameMove (.inl ⟨b, .inr rfl⟩) hdata

/-- Settles O30, mode by mode; in SPI mode by whether the byte is inside a frame. -/
theorem modeTransitions : Obligations.ModeTransitions := by
  intro b s t h
  unfold consume State.decodes at h
  cases hm : s.dec.mode <;> rw [hm] at h
  case terminal => exact consumeTerminal_mode hm h
  case bbio => exact consumeBbio_mode hm h
  case spi =>
    dsimp only
    by_cases hp : s.dec.parse = .idle
    case pos =>
      rw [hp] at h
      rw [if_neg (not_not.mpr hp), consumeSpiIdle_mode hm h]
      refine if_ctx_congr Iff.rfl (fun _ => rfl) fun h0 => ?_
      exact if_congr (spiDefined_iff b h0) rfl rfl
    case neg => rw [if_pos hp, (exec_frameByte hp h).mode_eq, hm]
  case desync =>
    by_cases hr : b = Param.entry ∧ Config.resync s.draws = true
    · cases (exec_xAny_resyncs hr).symm.trans h
      exact (if_pos hr).symm
    · cases (exec_xAny_stays hr).symm.trans h
      exact hm.trans (if_neg hr).symm

end Sys2Proof.Machine
end

section
/-! PROOF. Runs of bytes outside a frame: a run of ENTRY bytes (R401) and the mode-exit sequence (R423, R733). -/

namespace Sys2Proof.Machine

variable {s t u : State}

/-! ### A run of ENTRY bytes (R401) -/

/-- What k ENTRY bytes below the threshold leave: the run is longer by k, and each byte has its terminal output. -/
def State.counted (s : State) (k : Nat) : State :=
  { s with
    dec := { s.dec with entryRun := s.dec.entryRun + k }
    link := { s.link with
      d2h := s.link.d2h ++ (List.range k).flatMap (fun j => Config.terminalOutput (s.draws + j)) }
    draws := s.draws + k }

theorem State.counted_zero (s : State) : s.counted 0 = s := by
  simp [State.counted]

theorem State.counted_succ (s : State) (k : Nat) : s.counted (k + 1) =
    (((s.counted k).setEntryRun ((s.counted k).dec.entryRun + 1)).reply
      (Config.terminalOutput (s.counted k).draws)).tick := by
  simp [State.counted, State.setEntryRun, State.reply, State.tick, List.range_succ, Nat.add_assoc]

/-- In TERMINAL 0x00 is T.ENTRY (R306). -/
theorem consume_entry (hm : s.dec.mode = .terminal) : consume 0x00 s = exec .tEntry s := by
  rw [consume, State.decodes, hm]
  rfl

theorem consumeAll_entries {k : Nat} (bs : List Byte) (hm : s.dec.mode = .terminal)
    (hk : s.dec.entryRun + k < Config.entryThreshold) :
    consumeAll (List.replicate k 0x00 ++ bs) s = consumeAll bs (s.counted k) := by
  induction k generalizing bs with
  | zero => rw [State.counted_zero]; rfl
  | succ k ih =>
    have hlast : consume 0x00 (s.counted k) = .next (s.counted (k + 1)) := by
      rw [consume_entry (s := s.counted k) hm, State.counted_succ]
      exact exec_tEntry_counts hk
    rw [List.replicate_succ', List.append_assoc, ih _ (by omega), List.singleton_append, consumeAll_cons_next hlast]

/-- Settles O32: all bytes but the last only count, and the last one counts or reaches the threshold. -/
theorem entryRunOpensBbio : Obligations.EntryRunOpensBbio := by
  intro k s hm hle hpos
  obtain ⟨j, rfl⟩ : ∃ j, k = j + 1 := ⟨k - 1, by omega⟩
  by_cases hopen : s.dec.entryRun + (j + 1) = Config.entryThreshold
  case pos =>
    have hlast := (consume_entry (s := s.counted j) hm).trans (exec_tEntry_opens hopen.ge)
    rw [List.replicate_succ', consumeAll_entries [0x00] hm (by omega), consumeAll_cons_next hlast]
    simp only [if_pos hopen]
    refine ⟨_, rfl, rfl, rfl, ?_, rfl, rfl⟩
    simp [State.counted, List.range_succ, Param.ackBbio]
  case neg =>
    rw [← List.append_nil (List.replicate (j + 1) _), consumeAll_entries [] hm (by omega)]
    simp only [if_neg hopen, List.append_nil]
    exact ⟨_, rfl, hm, rfl, rfl, rfl, rfl⟩

/-! ### The mode-exit sequence (R423) -/

/-- In TERMINAL any other byte is T.OTHER (R307). -/
theorem consume_terminal_other {b : Byte} (hm : s.dec.mode = .terminal) (hb : b ≠ Param.entry) :
    consume b s = exec (.tOther b) s := by
  rw [consume, State.decodes, hm, decodeLink, decodeTerminal, if_neg hb]

/-- Where 0x00 leads to BBIO, 0x0F then returns to TERMINAL with chip-select released (R405). -/
theorem consumeAll_exit_of_bbio (h : consume 0x00 s = .next u) (hm : u.dec.mode = .bbio) (hbus : u.bus = s.bus)
    (hseq : u.seq = s.seq) :
    ∃ t, consumeAll [0x00, 0x0F] s = .next t ∧ t.dec.mode = .terminal ∧ t.dec.entryRun = 0 ∧ t.dec.parse = .idle ∧
      t.bus = s.bus ∧ t.seq = s.seq ∧ t.dec.csN = 1 := by
  have hreset : consume 0x0F u = exec .bResetTerm u := by
    rw [consume, State.decodes, hm]
    rfl
  rw [consumeAll_cons_next h, consumeAll_cons_next hreset]
  exact ⟨_, rfl, rfl, rfl, rfl, hbus, hseq, rfl⟩

/-- 0x00 leads to BBIO from every known start but TERMINAL below the threshold (R401, R403, R411). -/
theorem consume_entry_to_bbio (hs : DecStartsKnown s)
    (hrun : s.dec.mode = .terminal → Config.entryThreshold ≤ s.dec.entryRun + 1) :
    ∃ u, consume 0x00 s = .next u ∧ u.dec.mode = .bbio ∧ u.bus = s.bus ∧ u.seq = s.seq := by
  obtain ⟨hdesync, hp⟩ := hs
  cases hm : s.dec.mode
  case terminal => exact ⟨_, (consume_entry hm).trans (exec_tEntry_opens (hrun hm)), rfl, rfl, rfl⟩
  case bbio =>
    have hentry : consume 0x00 s = exec .bEntry s := by
      rw [consume, State.decodes, hm]
      rfl
    exact ⟨_, hentry, hm, rfl, rfl⟩
  case spi =>
    have hexit : consume 0x00 s = exec .sExitBbio s := by
      rw [consume, State.decodes, hm, hp]
      rfl
    exact ⟨_, hexit, rfl, rfl, rfl⟩
  case desync => exact absurd hm hdesync

/-- Settles O31: 0x00 leads to BBIO, except in TERMINAL below the threshold, where 0x0F then ends the run. -/
theorem exitSequenceEndsInTerminal : Obligations.ExitSequenceEndsInTerminal := by
  intro s hs
  by_cases hrun : s.dec.mode = .terminal → Config.entryThreshold ≤ s.dec.entryRun + 1
  case pos =>
    obtain ⟨u, hu, hm, hbus, hseq⟩ := consume_entry_to_bbio hs hrun
    obtain ⟨t, ht, hmode, hzero, hparse, hbus', hseq', hcs⟩ := consumeAll_exit_of_bbio hu hm hbus hseq
    exact ⟨t, ht, hmode, hzero, hparse, hbus', hseq', fun _ => hcs⟩
  case neg =>
    obtain ⟨hm, hlt⟩ := Classical.not_imp.mp hrun
    have hentry := (consume_entry hm).trans (exec_tEntry_counts (Nat.not_le.mp hlt))
    rw [consumeAll_cons_next hentry]
    exact ⟨_, consumeAll_cons_next (consume_terminal_other hm (by decide)), hm, rfl, hs.2, rfl, rfl,
      fun h => h.elim (absurd hm) (absurd · hlt)⟩

end Sys2Proof.Machine
end

section
/-! PROOF. DEC's step and where the machine stops (R400, R551, R574): under the invariant every agent's turn has a
next state. -/

namespace Sys2Proof.Machine

variable {s : State}

/-! ### DEC's step (R400) -/

theorem decTurn_cons {b : Byte} {rest : List Byte} (h : s.link.h2d = b :: rest) :
    decTurn s = exec (s.decodes b) (s.setH2d rest) := by
  rw [decTurn, h]
  rfl

theorem decTurn_nil (h : s.link.h2d = []) : decTurn s = .next s := by
  rw [decTurn, h]

/-- DEC's step with a byte present; the byte keeps the run from being over. -/
theorem step_dec_cons {b : Byte} {rest : List Byte} (hturn : s.turn = .dec) (h : s.link.h2d = b :: rest) :
    step s = andThen (exec (s.decodes b) (s.setH2d rest)) fun t => .next (passTurn t) := by
  have hend : s.ended = false := by simp [State.ended, h]
  simp only [step_of_not_ended hend, agentTurn, hturn, decTurn_cons h]

theorem step_dec_nil (hturn : s.turn = .dec) (h : s.link.h2d = []) (hend : s.ended = false) :
    step s = .next (passTurn s) := by
  simp only [step_of_not_ended hend, agentTurn, hturn, decTurn_nil h, andThen_next]

/-- Settles O35: with a byte present by the outcome of the instruction, and with none DEC's turn passes. -/
theorem stepRunsTheDecodedInstruction : Obligations.StepRunsTheDecodedInstruction := by
  refine ⟨fun s b rest i hturn hh2d hi => ?_, fun s hturn hh2d hend => step_dec_nil hturn hh2d hend⟩
  rw [step_dec_cons hturn hh2d, State.decodes, hi, State.setH2d]
  cases exec i _ <;> rfl

/-! ### Every turn has a next state -/

/-- The instructions outside a frame have a next state in every state. -/
theorem exec_next_of_not_frameByte {i : Instr} (s : State) (hh : ∀ b, i ≠ .sWtrHdr b) (hd : ∀ b, i ≠ .sWtrData b) :
    ∃ t, exec i s = .next t := by
  cases i with
  | sWtrHdr b => exact absurd rfl (hh b)
  | sWtrData b => exact absurd rfl (hd b)
  | _ => exact ⟨_, rfl⟩

/-- A header byte has a next state while the header has fewer than four bytes (R133, R417). -/
theorem exec_sWtrHdr_next {acc : List Byte} (b : Byte) (hp : s.dec.parse = .hdr acc.length acc)
    (hk : acc.length < 4) : ∃ t, exec (.sWtrHdr b) s = .next t := by
  by_cases hlast : acc.length + 1 < 4
  case pos => exact ⟨_, exec_sWtrHdr_kept b hp hlast⟩
  case neg =>
    obtain ⟨n1, n0, m1, rfl⟩ := List.length_eq_three.mp (show acc.length = 3 by omega)
    exact ⟨_, exec_sWtrHdr_last b hp (Nat.le_refl 3)⟩

/-- With the parser idle no byte is read as one of a frame (R307). -/
theorem decodeLink_idle_ne (mode : Mode) (b : Byte) :
    (∀ c, decodeLink mode .idle b ≠ .sWtrHdr c) ∧ ∀ c, decodeLink mode .idle b ≠ .sWtrData c := by
  cases mode
  case terminal =>
    simp only [decodeLink, decodeTerminal]
    split <;> simp
  case bbio =>
    simp only [decodeLink, decodeBbio]
    repeat' split
    all_goals simp
  case spi =>
    simp only [decodeLink, decodeSpiIdle]
    repeat' split
    all_goals simp
  case desync => simp [decodeLink]

/-- Where R307 decodes a byte and the parser stands as R133 says, the instruction has a next state. -/
theorem consume_next {b : Byte} (hs : DecInv s.dec) : ∃ t, consume b s = .next t := by
  obtain ⟨hmode, hfits, -, -⟩ := decInv_iff.mp hs
  unfold consume State.decodes
  cases hp : s.dec.parse
  case idle =>
    obtain ⟨hh, hd⟩ := decodeLink_idle_ne s.dec.mode b
    exact exec_next_of_not_frameByte s hh hd
  case hdr k acc =>
    rw [hmode (by simp [hp])]
    rw [hp] at hfits
    obtain ⟨rfl, hk⟩ := hfits
    exact exec_sWtrHdr_next b hp hk
  case data n m acc =>
    rw [hmode (by simp [hp])]
    exact ⟨_, (exec_decodePayload b hp).trans (exec_sWtrData b hp)⟩

theorem decTurn_next (hs : DecInv s.dec) : ∃ t, decTurn s = .next t := by
  cases hh2d : s.link.h2d with
  | nil => exact ⟨s, decTurn_nil hh2d⟩
  | cons b rest =>
    rw [decTurn_cons hh2d]
    exact consume_next (s := s.setH2d rest) hs

theorem ctrl_next {step : StepId} {c : Byte} {expected : List Byte} {next : Phase}
    (h : s.seq.point = .start ∨ s.seq.point = .awaitAck) : ∃ t, ctrl step c expected next s = .next t := by
  unfold ctrl
  rcases h with h | h <;> rw [h] <;> exact ⟨_, rfl⟩

theorem xfer_next {step : StepId} {p : List Byte} {m : Count} {rest : List Byte → State → State} :
    ∃ t, xfer step p m rest s = .next t := by
  unfold xfer
  split <;> exact ⟨_, rfl⟩

/-- Under the invariant SEQ stands at a point its phase has, with an index P_SIG has, so its turn goes on. -/
theorem seqTurn_next (hs : SeqInv s.seq) : ∃ t, seqTurn s = .next t := by
  have hpoint := hs.point
  unfold Seq.pointFits at hpoint
  unfold seqTurn
  cases hpc : s.seq.pc <;> simp only [hpc] at hpoint ⊢
  case busSel | cfg | speed | csLow | csHigh => exact ctrl_next hpoint
  case pe | rdl | rdh => exact xfer_next
  case sig =>
    rw [phaseSig, dif_pos (hs.sigIndex hpc)]
    exact xfer_next
  case entry =>
    unfold phaseEntry
    rcases hpoint with h | h <;> rw [h] <;> exact ⟨_, rfl⟩
  case idle | opening | exit => exact ⟨_, rfl⟩
  case close =>
    unfold phaseClose
    split <;> exact ⟨_, rfl⟩
  case doneOk | doneErr =>
    unfold phaseDone
    split <;> exact ⟨_, rfl⟩

theorem agentTurn_next (hi : Inv s) : ∃ t, agentTurn s = .next t := by
  unfold agentTurn
  cases s.turn
  case seq => exact seqTurn_next hi.seq
  case dec => exact decTurn_next hi.dec
  case link => exact ⟨_, rfl⟩

/-- Settles O55: a run that is not over goes on, since every agent's turn does. -/
theorem machineStopsOnlyAtTheEndOfARun : Obligations.MachineStopsOnlyAtTheEndOfARun := by
  intro s hi
  cases hend : s.ended
  case true => exact .inr ⟨step_runEnded_iff.mpr hend, (ended_iff s).mp hend⟩
  case false =>
    obtain ⟨u, hu⟩ := agentTurn_next hi
    exact .inl ⟨passTurn u, by rw [step_of_not_ended hend, hu, andThen_next]⟩

end Sys2Proof.Machine
end

section
/-! PROOF. The transfer and the ISP instructions on the bus (R451 to R453, R502 to R505): each instruction is the one
transfer of its payload. -/

namespace Sys2Proof

/-- A flash read's payload carries the quotient and the remainder by 256 of its address (R202, R312). -/
theorem flashPayload_eq (cmd : Byte) (a : SeqAddr) :
    flashPayload cmd a = [cmd, BitVec.ofNat 8 (a.toNat / 256), BitVec.ofNat 8 (a.toNat % 256)] := by
  rw [flashPayload, ← decompose_segment_toNat, ← decompose_offset_toNat, BitVec.ofNat_toNat, BitVec.ofNat_toNat,
    BitVec.setWidth_eq, BitVec.setWidth_eq]

theorem flashPayload_setWidth (cmd : Byte) (a : WordAddr) :
    flashPayload cmd (a.setWidth 15) = [cmd, BitVec.ofNat 8 (a.toNat / 256), BitVec.ofNat 8 (a.toNat % 256)] := by
  rw [flashPayload_eq, BitVec.toNat_setWidth_of_le (by decide)]

end Sys2Proof

namespace Sys2Proof.Machine

/-- Settles O22: the write phase's records w answer the payload, and the reply leaves them out. -/
theorem transferMovesThePayloadAndReads : Obligations.TransferMovesThePayloadAndReads := by
  intro p m s
  obtain ⟨w, r, hnext, hw, hr, hans⟩ := wtrExecute_spec p m s
  have hlen : p.length = w.length := by simpa using (congrArg List.length hw).symm
  refine ⟨w ++ r, ?_, ?_, hans⟩
  · rw [hnext, hlen, List.drop_left]
    rfl
  · rw [List.map_append, List.map_append, hw, hr, List.map_replicate]
    rfl

/-- Settles O23: each of the four is the completion of its frame, which idles the parser and runs the transfer. -/
theorem ispInstructionsOnTheBus : Obligations.IspInstructionsOnTheBus := by
  intro i s bytes reads hi
  have hframe : ∃ m : Count, ispFrame i = some (bytes, m) ∧ m.toNat = reads := by
    rcases hi with ⟨rfl, rfl, rfl⟩ | ⟨k, rfl, rfl, rfl⟩ | ⟨a, rfl, rfl, rfl⟩ | ⟨a, rfl, rfl, rfl⟩
    · exact ⟨peReads, rfl, rfl⟩
    · exact ⟨oneRead, rfl, rfl⟩
    · exact ⟨oneRead, by rw [← flashPayload_setWidth]; rfl, rfl⟩
    · exact ⟨oneRead, by rw [← flashPayload_setWidth]; rfl, rfl⟩
  obtain ⟨m, hm, rfl⟩ := hframe
  obtain ⟨log, hnext, hreq, hans⟩ := transferMovesThePayloadAndReads bytes m.toNat (s.setParse .idle)
  refine ⟨log, ?_, hreq, hans⟩
  rw [exec_ispFrame hm, completeFrame, hnext]
  rfl

end Sys2Proof.Machine
end

section
/-! PROOF. One flash read across the agents (R453, R551, R568, R569): DEC's turns consume the bytes of the link in
order, the frame's eight bytes run one transfer, and SEQ stores the byte read. -/

namespace Sys2Proof.Machine

variable {s t : State}

/-- A transfer of three payload bytes that reads one byte: four exchanges, and the reply carries the answer to the
last one (R453). -/
theorem wtrExecute_threeBytes (b0 b1 b2 : Byte) (s : State) : ∃ x y z w : Exchange,
    wtrExecute [b0, b1, b2] 1 s = (s.logExchanges [x, y, z, w]).reply [0x01, w.miso] ∧
    [x, y, z, w].map Exchange.req = [b0, b1, b2, Config.fillByte].map s.request ∧
    answered s.bus.log [x, y, z, w] := by
  obtain ⟨p, r, hnext, hp, hr, hans⟩ := wtrExecute_spec [b0, b1, b2] 1 s
  obtain ⟨x, y, z, rfl⟩ := List.length_eq_three.mp (by simpa using congrArg List.length hp)
  obtain ⟨w, rfl⟩ := List.length_eq_one_iff.mp (by simpa using congrArg List.length hr)
  exact ⟨x, y, z, w, hnext, congrArg₂ (· ++ ·) hp hr, hans⟩

/-! ### Bytes the link holds for DEC: no instruction reads `link.h2d` (R152, R400) -/

theorem writePhase_setH2d (p h : List Byte) (s : State) : writePhase p (s.setH2d h) = (writePhase p s).setH2d h := by
  induction p generalizing s with
  | nil => rfl
  | cons b rest ih => exact ih (exchange b s).2

theorem readPhase_setH2d (m : Nat) (h : List Byte) (s : State) :
    readPhase m (s.setH2d h) = ((readPhase m s).1, (readPhase m s).2.setH2d h) := by
  induction m generalizing s with
  | zero => rfl
  | succ m ih =>
    have hrest : readPhase m (exchange Config.fillByte (s.setH2d h)).2 = _ := ih (exchange Config.fillByte s).2
    simp only [readPhase, hrest]
    rfl

theorem completeFrame_setH2d (p h : List Byte) (m : Count) (s : State) :
    completeFrame p m (s.setH2d h) = (completeFrame p m s).setH2d h := by
  have hw : writePhase p ((s.setH2d h).setParse .idle) = _ := writePhase_setH2d p h (s.setParse .idle)
  simp only [completeFrame, wtrExecute, hw, readPhase_setH2d]
  rfl

theorem acceptHeader_setH2d (n m : Count) (h : List Byte) (s : State) :
    acceptHeader n m (s.setH2d h) = (acceptHeader n m s).setH2d h := by
  unfold acceptHeader
  rw [completeFrame_setH2d]
  split
  · rfl
  · split <;> rfl

/-- An instruction neither reads nor writes the bytes still on the link. -/
theorem exec_setH2d (i : Instr) (h : List Byte) (s : State) :
    exec i (s.setH2d h) = andThen (exec i s) fun t => .next (t.setH2d h) := by
  cases i with
  | tEntry =>
    by_cases hrun : Config.entryThreshold ≤ s.dec.entryRun + 1
    · rw [exec_tEntry_opens hrun, exec_tEntry_opens (s := s.setH2d h) hrun]; rfl
    · rw [exec_tEntry_counts (Nat.not_le.mp hrun), exec_tEntry_counts (s := s.setH2d h) (Nat.not_le.mp hrun)]; rfl
  | xAny b =>
    by_cases hsync : b = Param.entry ∧ Config.resync s.draws = true
    · rw [exec_xAny_resyncs hsync, exec_xAny_resyncs (s := s.setH2d h) hsync]; rfl
    · rw [exec_xAny_stays hsync, exec_xAny_stays (s := s.setH2d h) hsync]; rfl
  | sWtrHdr b =>
    simp only [exec, execSWtrHdr, State.setH2d_dec, acceptHeader_setH2d]
    repeat' split
    all_goals rfl
  | sWtrData b =>
    simp only [exec, execSWtrData, State.setH2d_dec, completeFrame_setH2d]
    repeat' split
    all_goals rfl
  | ispPe | ispRsig | ispRdl | ispRdh => exact congrArg Host.Outcome.next (completeFrame_setH2d _ h _ s)
  | tOther | bEntry | bSpiSelect | bResetTerm | bUndef | sExitBbio | sCsLow | sCsHigh | sCfg | sSpeed | sWtr
  | sUndef => rfl

/-- DEC's turns consume the bytes of the link in order, one each, whatever bytes follow them (R400). -/
theorem decTurns_of_consumeAll {bs : List Byte} (rest : List Byte) (hx : consumeAll bs s = .next t) :
    decTurns bs.length (s.setH2d (bs ++ rest)) = .next (t.setH2d rest) := by
  induction bs generalizing s with
  | nil => cases hx; rfl
  | cons b bs ih =>
    obtain ⟨u, hu, hx⟩ := andThen_eq_next hx
    have hturn : decTurn (s.setH2d (b :: bs ++ rest)) = .next (u.setH2d (bs ++ rest)) := by
      rw [decTurn_cons rfl]
      exact (exec_setH2d (s.decodes b) (bs ++ rest) s).trans (congrArg (andThen · _) hu)
    rw [List.length_cons, decTurns, hturn]
    exact ih hx

/-! ### One flash read from SEQ to the target and back (R568, R569) -/

theorem State.pushH2d_of_nil (bs : List Byte) (h : s.link.h2d = []) : s.pushH2d bs = s.setH2d bs := by
  rw [State.pushH2d, h]
  rfl

theorem Link.eq_of_empty {l : Link} (hh : l.h2d = []) (hd : l.d2h = []) :
    l = { h2d := [], d2h := [], up := l.up } := by
  obtain ⟨h2d, d2h, up⟩ := l
  cases hh
  cases hd
  rfl

/-- The payload of the flash read SEQ stands in (R312, R568, R569). -/
def Seq.flashRead (q : Seq) : List Byte := flashPayload (if q.pc = .rdl then rdlOpcode else rdhOpcode) q.addr

/-- SEQ has begun a transaction and waits for its acknowledgment (R553). -/
def State.awaiting (s : State) (step : StepId) (f : List Byte) : State := (s.emit (.txBegin step f)).setPoint .awaitAck

/-- Both flash phases are one framed transaction of the present address (R568, R569). -/
theorem seqTurn_flash (hpc : s.seq.pc = .rdl ∨ s.seq.pc = .rdh) :
    ∃ step rest, seqTurn s = xfer step s.seq.flashRead oneRead rest s := by
  rcases hpc with hpc | hpc
  · exact ⟨_, _, by rw [seqTurn_rdl hpc, Seq.flashRead, if_pos hpc]⟩
  · exact ⟨_, _, by rw [seqTurn_rdh hpc, Seq.flashRead, if_neg (by simp [hpc])]⟩

/-- The first turn of a flash read writes its frame to an empty link (R553). -/
theorem seqTurn_flash_begins (hpc : s.seq.pc = .rdl ∨ s.seq.pc = .rdh) (hp : s.seq.point = .start)
    (hu : s.link.up = true) (hh : s.link.h2d = []) :
    ∃ step, seqTurn s =
      .next ((s.awaiting step (frame s.seq.flashRead oneRead)).setH2d (frame s.seq.flashRead oneRead)) := by
  obtain ⟨step, rest, hturn⟩ := seqTurn_flash hpc
  refine ⟨step, hturn.trans ?_⟩
  have hwrite : beginTx step (frame s.seq.flashRead oneRead) s =
      (s.awaiting step (frame s.seq.flashRead oneRead)).pushH2d (frame s.seq.flashRead oneRead) := linkWrite_up hu
  rw [xfer, hp]
  exact congrArg _ (hwrite.trans (State.pushH2d_of_nil _ hh))

/-- With acknowledgment and reply there, two turns of SEQ end a flash read (R453, R553): the byte is stored at the
image's end, and SEQ stands at its next read. -/
theorem seqTurns_flash_end {b : Byte} (hpc : s.seq.pc = .rdl ∨ s.seq.pc = .rdh) (hp : s.seq.point = .awaitAck)
    (hu : s.link.up = true) (hd : s.link.d2h = Param.ack ++ [b]) :
    ∃ u t, seqTurn s = .next u ∧ seqTurn u = .next t ∧
      t.seq.image.readByte s.seq.image.length = some b ∧
      (∀ a, a ≠ s.seq.image.length → t.seq.image.readByte a = s.seq.image.readByte a) ∧
      t.bus = s.bus ∧ t.dec = s.dec ∧ t.link = { s.link with d2h := [] } ∧ t.seq.point = .start ∧
      (s.seq.pc = .rdl → t.seq.pc = .rdh ∧ t.seq.addr = s.seq.addr) ∧
      (s.seq.pc = .rdh → t.seq.addr = s.seq.addr + 1 ∧
        t.seq.pc = if (s.seq.addr + 1).toNat < s.seq.cfg.addrSpaceSize.val then .rdl else .csHigh) := by
  obtain ⟨step, rest, hturn⟩ := seqTurn_flash hpc
  have hack : seqTurn s = .next ((s.setD2h [b]).setPoint (.awaitReply Param.ack)) := by
    rw [hturn, xfer, hp]
    exact congrArg _ (onRead_append hu hd rfl)
  obtain ⟨t, hstores, hsame, hother, ht⟩ :=
    flashBytesAreAppended ((s.setD2h [b]).setPoint (.awaitReply Param.ack)) b [] hpc rfl hu rfl
  have hbus : t.bus = s.bus := by rw [ht]; rfl
  have hdec : t.dec = s.dec := by rw [ht]; rfl
  have hnext := congrArg (fun t : State => t.seq.pc) ht
  have haddr := congrArg (fun t : State => t.seq.addr) ht
  refine ⟨_, t, hack, hstores, hsame, hother, hbus, hdec, congrArg State.link ht,
    congrArg (fun t : State => t.seq.point) ht, fun h => ⟨hnext.trans (if_pos h), haddr.trans (if_pos h)⟩,
    fun h => ?_⟩
  have hnot : s.seq.pc ≠ .rdl := by simp [h]
  exact ⟨haddr.trans (if_neg hnot), hnext.trans (if_neg hnot)⟩

/-- DEC idle in SPI mode runs a flash read's frame in eight turns, and they are one transfer (R416 to R418, R453). -/
theorem decTurns_flashRead (hm : s.dec.mode = .spi) (hp : s.dec.parse = .idle) : ∃ x y z w : Exchange,
    decTurns 8 (s.setH2d (frame s.seq.flashRead oneRead)) =
      .next (((s.logExchanges [x, y, z, w]).reply [0x01, w.miso]).setH2d []) ∧
    [x, y, z, w].map Exchange.req =
      [if s.seq.pc = .rdl then 0x20 else 0x28, BitVec.ofNat 8 (s.seq.addr.toNat / 256),
        BitVec.ofNat 8 (s.seq.addr.toNat % 256), Config.fillByte].map s.request ∧
    answered s.bus.log [x, y, z, w] := by
  have hpayload : s.seq.flashRead = [if s.seq.pc = .rdl then 0x20 else 0x28,
      BitVec.ofNat 8 (s.seq.addr.toNat / 256), BitVec.ofNat 8 (s.seq.addr.toNat % 256)] := flashPayload_eq _ _
  have hrun := wholeFrameRunsOneTransfer s.seq.flashRead 1 s hm hp (by simp [hpayload]) (by decide)
  rw [← header_ofNat] at hrun
  have hturns := decTurns_of_consumeAll [] hrun
  rw [List.append_nil] at hturns
  obtain ⟨x, y, z, w, htransfer, hreq, hans⟩ := wtrExecute_threeBytes (if s.seq.pc = .rdl then 0x20 else 0x28)
    (BitVec.ofNat 8 (s.seq.addr.toNat / 256)) (BitVec.ofNat 8 (s.seq.addr.toNat % 256)) s
  rw [← hpayload] at htransfer
  exact ⟨x, y, z, w, by rw [← htransfer]; exact hturns, hreq, hans⟩

/-- Settles O49: SEQ writes the frame, DEC's eight turns run its transfer, SEQ reads the acknowledgment and then
stores the byte. -/
theorem flashReadEndToEnd : Obligations.FlashReadEndToEnd := by
  intro s hpc hstart hup hh2d hd2h hmode hparse
  obtain ⟨step, hbegins⟩ := seqTurn_flash_begins hpc hstart hup hh2d
  obtain ⟨x, y, z, w, hturns, hreq, hans⟩ :=
    decTurns_flashRead (s := s.awaiting step (frame s.seq.flashRead oneRead)) hmode hparse
  have hreply : s.link.d2h ++ [0x01, w.miso] = Param.ack ++ [w.miso] := by rw [hd2h]; rfl
  obtain ⟨u, t, hack, hstores, hsame, hother, hbus, hdec, hlink, hend⟩ := seqTurns_flash_end
    (s := (((s.awaiting step (frame s.seq.flashRead oneRead)).logExchanges [x, y, z, w]).reply [0x01, w.miso]).setH2d [])
    hpc rfl hup hreply
  exact ⟨_, _, u, t, x, y, z, w, hbegins, hturns, hack, hstores, congrArg Bus.log hbus, hreq, hans, hsame, hother, hdec,
    hlink.trans (Link.eq_of_empty hh2d hd2h).symm, hend⟩

end Sys2Proof.Machine
end

section
/-! PROOF. The answers of a conforming target in a run (R503 to R506): what a run's steps leave of the bus history and
of the select-low interval, and the group of four that a read instruction ends. -/

namespace Sys2Proof.Machine

variable {r : Nat → State} {a k : Nat} {i : Instr} {x y z w : Exchange}

/-! ### The steps of a run -/

theorem IsRun.next {u : State} (hr : IsRun r) (h : step (r k) = .next u) :
    ∃ who, r (k + 1) = { u with turn := who } := by
  rcases hr k with ⟨u', who, hu', hnext⟩ | ⟨hstop, -⟩
  · cases hu'.symm.trans h
    exact ⟨who, hnext⟩
  · exact absurd h (hstop u)

/-- No agent's turn takes a record off the bus history (R141). -/
theorem agentTurn_log {s t : State} (h : agentTurn s = .next t) : s.bus.log <+: t.bus.log := by
  unfold agentTurn at h
  cases hturn : s.turn <;> rw [hturn] at h
  case seq =>
    obtain ⟨-, hbus, -⟩ := sequencerLeavesDecoderAndBusAlone s t h
    rw [hbus]
  case dec =>
    cases hh2d : s.link.h2d with
    | nil =>
      rw [decTurn_nil hh2d] at h
      cases h
      exact List.prefix_refl _
    | cons b rest =>
      rw [decTurn_cons hh2d] at h
      exact (exec_decEffect h).log
  case link =>
    cases h
    exact List.prefix_refl _

/-- In a run the bus history only grows (R141). -/
theorem IsRun.log_le (hr : IsRun r) (h : a ≤ k) : (r a).bus.log.length ≤ (r k).bus.log.length := by
  induction k, h using Nat.le_induction with
  | base => exact Nat.le_refl _
  | succ k _ ih =>
    refine ih.trans ?_
    rcases hr k with ⟨u, who, hu, hnext⟩ | ⟨-, hsame⟩
    · obtain ⟨v, hv, rfl⟩ := step_next hu
      rw [hnext]
      exact (agentTurn_log hv).length_le
    · rw [hsame]

theorem State.running_eq_some {s : State} (h : s.running = some i) :
    ∃ b rest, s.turn = .dec ∧ s.link.h2d = b :: rest ∧ s.decodes b = i := by
  unfold State.running at h
  split at h
  case h_1 b rest hturn hh2d => exact ⟨b, rest, hturn, hh2d, Option.some.inj h⟩
  case h_2 => cases h

/-- A step of a run in which DEC runs an instruction with a payload of three bytes and one byte read: its four
exchanges are added, and its reply carries the answer to the last one (R503 to R505). -/
theorem IsRun.reads {b0 b1 b2 : Byte} (hr : IsRun r) (hi : (r k).running = some i)
    (hf : ispFrame i = some ([b0, b1, b2], oneRead)) : ∃ x y z w : Exchange,
    (r (k + 1)).bus.log = (r k).bus.log ++ [x, y, z, w] ∧
    (r (k + 1)).link.d2h = (r k).link.d2h ++ [0x01, w.miso] ∧
    (r (k + 1)).dec.csN = (r k).dec.csN ∧ (r (k + 1)).seq = (r k).seq ∧
    x.req.mosi = b0 ∧ y.req.mosi = b1 ∧ z.req.mosi = b2 := by
  obtain ⟨b, rest, hturn, hh2d, hb⟩ := State.running_eq_some hi
  obtain ⟨x, y, z, w, htransfer, hreq, -⟩ := wtrExecute_threeBytes b0 b1 b2 (((r k).setH2d rest).setParse .idle)
  have hexec : exec i ((r k).setH2d rest) = .next _ := (exec_ispFrame hf).trans (congrArg _ htransfer)
  have hstep := step_dec_cons hturn hh2d
  rw [hb, hexec, andThen_next] at hstep
  obtain ⟨who, hnext⟩ := hr.next hstep
  simp only [List.map_cons, List.cons.injEq] at hreq
  obtain ⟨hx, hy, hz, -⟩ := hreq
  refine ⟨x, y, z, w, ?_, ?_, ?_, ?_, congrArg _ hx, congrArg _ hy, congrArg _ hz⟩ <;> rw [hnext] <;> rfl

/-! ### Groups of four -/

theorem groupAt_append {l : List Exchange} (m : List Exchange) {g : Nat} (h : 4 * g + 4 ≤ l.length) :
    groupAt (l ++ m) g = groupAt l g := by
  rw [groupAt, groupAt, List.drop_append_of_le_length (by omega), List.take_append_of_le_length (by simp; omega)]

/-- Four exchanges after whole groups are the next group. -/
theorem groupAt_append_four {l : List Exchange} (h : l.length % 4 = 0) :
    groupAt (l ++ [x, y, z, w]) (l.length / 4) = [x, y, z, w] := by
  have hlen : 4 * (l.length / 4) = l.length := by omega
  rw [groupAt, hlen, List.drop_left]
  rfl

/-! ### The select-low interval -/

/-- While the select line is low its interval goes on through a step that keeps the line. -/
theorem selectLowSince_succ {start : Nat} (h : selectLowSince r k = some start)
    (hcs : (r (k + 1)).dec.csN = (r k).dec.csN) : selectLowSince r (k + 1) = some start := by
  have hlow : (r k).dec.csN ≠ 1 := by
    intro hhigh
    cases k with
    | zero => cases h
    | succ j => rw [selectLowSince, if_pos hhigh] at h; cases h
  rw [selectLowSince, hcs, if_neg hlow, if_neg hlow, h]

theorem InSession.succ (h : InSession r a k) (hseq : (r (k + 1)).seq = (r k).seq) : InSession r a (k + 1) := by
  obtain ⟨hle, hover⟩ := h
  refine ⟨Nat.le_succ_of_le hle, fun j haj hj => ?_⟩
  rcases Nat.le_succ_iff.mp hj with hj | rfl
  · exact hover j haj hj
  · rw [State.sessionOver, hseq]
    exact hover k hle (Nat.le_refl k)

/-- A conforming target answers the group that a step adds after whole groups, one of which enables programming
(R506). -/
theorem TargetConforms.answers_added {sigT : Fin 3 → Byte} {flashT : WordAddr → BitVec 16} {start g : Nat}
    (hc : TargetConforms sigT flashT r a) (hr : IsRun r) (hin : InSession r a (k + 1)) (ha : a ≤ k)
    (hlow : selectLowSince r (k + 1) = some start) (hlog : (r (k + 1)).bus.log = (r k).bus.log ++ [x, y, z, w])
    (hwhole : ((r k).bus.log.length - start) % 4 = 0) (hg : 4 * g < (r k).bus.log.length - start)
    (hen : enablesProgramming (groupAt ((r k).bus.log.drop start) g)) :
    groupAnswers sigT flashT [x, y, z, w] := by
  have hlen : ((r k).bus.log.drop start).length = (r k).bus.log.length - start := List.length_drop
  have hinterval : (r (k + 1)).bus.log.drop start = (r k).bus.log.drop start ++ [x, y, z, w] := by
    rw [hlog, List.drop_append_of_le_length (by omega)]
  have hbefore := hr.log_le ha
  have h := hc.answers (k + 1) start (((r k).bus.log.length - start) / 4) g hin hlow (by omega) (by omega)
  rw [hinterval, groupAt_append _ (by omega)] at h
  rw [← hlen] at h hwhole
  rw [groupAt_append_four hwhole] at h
  exact h hen

/-! ### The reads -/

theorem sigIndex_setWidth (n : Fin 3) : (BitVec.ofNat 2 n).setWidth 8 = BitVec.ofNat 8 n := by
  decide +revert

/-- i is a read instruction, and answer the byte that SIG_T or FLASH_T has for it (R503 to R505). -/
def ReadsByte (sigT : Fin 3 → Byte) (flashT : WordAddr → BitVec 16) (i : Instr) (answer : Byte) : Prop :=
  (∃ n : Fin 3, i = .ispRsig (BitVec.ofNat 2 n) ∧ answer = sigT n) ∨
  (∃ v, i = .ispRdl v ∧ answer = (flashT v).extractLsb' 0 8) ∨
  (∃ v, i = .ispRdh v ∧ answer = (flashT v).extractLsb' 8 8)

section
variable {sigT : Fin 3 → Byte} {flashT : WordAddr → BitVec 16} {answer : Byte}

/-- A read's payload names the case of R506 that applies to its group, and the word in it (R312). -/
theorem ReadsByte.answer_of_payload (h : ReadsByte sigT flashT i answer) :
    ∃ b0 b1 b2, ispFrame i = some ([b0, b1, b2], oneRead) ∧ ∀ x y z w : Exchange,
      x.req.mosi = b0 → y.req.mosi = b1 → z.req.mosi = b2 → groupAnswers sigT flashT [x, y, z, w] →
      w.miso = answer := by
  rcases h with ⟨n, rfl, rfl⟩ | ⟨v, rfl, rfl⟩ | ⟨v, rfl, rfl⟩
  · refine ⟨_, _, _, rfl, fun x y z w hx hy hz h => ?_⟩
    obtain ⟨hsig, -, -⟩ := h x y z w rfl
    exact hsig n hx hy (hz.trans (sigIndex_setWidth n))
  · obtain ⟨hmax, hv⟩ := recompose_decompose v
    refine ⟨_, _, _, rfl, fun x y z w hx hy hz h => ?_⟩
    obtain ⟨-, hlow, -⟩ := h x y z w rfl
    rw [hlow hx (hy ▸ hmax), hy, hz, hv]
  · obtain ⟨hmax, hv⟩ := recompose_decompose v
    refine ⟨_, _, _, rfl, fun x y z w hx hy hz h => ?_⟩
    obtain ⟨-, -, hhigh⟩ := h x y z w rfl
    rw [hhigh hx (hy ▸ hmax), hy, hz, hv]

/-- A stable flash answers a flash read's last exchange with its byte (R506). -/
theorem FlashStable.answer_of_last (hs : FlashStable flashT r a) (h : ReadsByte sigT flashT i answer)
    (hnot : ∀ n, i ≠ .ispRsig n) (hin : InSession r a k) (hi : (r k).running = some i)
    (hw : w ∈ (added r k).getLast?) : w.miso = answer := by
  rcases h with ⟨n, rfl, -⟩ | ⟨v, rfl, rfl⟩ | ⟨v, rfl, rfl⟩
  · exact absurd rfl (hnot _)
  · exact (hs k v hin).1 hi w hw
  · exact (hs k v hin).2 hi w hw

end

/-- Settles O27: the read adds one group of four after the interval's whole groups, and its reply is the answer to
the last exchange of that group. -/
theorem conformingTargetAnswersReads : Obligations.ConformingTargetAnswersReads := by
  intro sigT flashT r a k i answer hr hin hi hread
  obtain ⟨b0, b1, b2, hf, hanswer⟩ := ReadsByte.answer_of_payload hread
  obtain ⟨x, y, z, w, hlog, hd2h, hcs, hseq, hx, hy, hz⟩ := hr.reads hi hf
  refine ⟨fun start g hc hlow hwhole hg hen => ?_, fun hstable hnot => ?_⟩
  · have hgroup := hc.answers_added hr (hin.succ hseq) hin.1 (selectLowSince_succ hlow hcs) hlog hwhole hg hen
    rw [hd2h, hanswer x y z w hx hy hz hgroup]
  · have hlast : w ∈ (added r k).getLast? := by
      rw [added, hlog, List.drop_left]
      rfl
    rw [hd2h, hstable.answer_of_last hread hnot hin hi hlast]

end Sys2Proof.Machine
end

section
/-! PROOF. SEQ's turns phase by phase, each with the whole next state: the start and the open of a session, the
control and the framed transactions, an entry attempt, the exit and the close (R552, R553, R559 to R573). -/

namespace Sys2Proof.Machine

variable {s : State} {step : StepId}

/-! ### Writes and reads -/

/-- The first turn of a transaction writes its bytes, or finds the link down (R124, R552, R553). -/
theorem beginTx_eq (step : StepId) (bs : List Byte) (s : State) : beginTx step bs s =
    if s.link.up = true then (s.awaiting step bs).pushH2d bs
    else (s.emit (.txBegin step bs)).raise (linkLostAt step) := rfl

section
variable {n : Nat} {rest : List Byte → State → State}

theorem onRead_down (hu : s.link.up = false) : onRead step n s rest = s.raise (linkLostAt step) := by
  simp [onRead, linkRead, hu]

/-- With the bytes it asks for present, a read takes them (R124). -/
theorem onRead_present (hu : s.link.up = true) (hn : n ≤ s.link.d2h.length) :
    onRead step n s rest = rest (s.link.d2h.take n) (s.setD2h (s.link.d2h.drop n)) := by
  simp [onRead, linkRead, hu, hn]

/-- With too few bytes present, a read holds or, by the draw, times out with those there are (R124). -/
theorem onRead_short (hu : s.link.up = true) (hn : s.link.d2h.length < n) : onRead step n s rest =
    if Config.readTimesOut s.draws = true then rest s.link.d2h (s.setD2h []).tick else s.tick := by
  simp only [onRead, linkRead, hu, if_neg (Nat.not_le.mpr hn)]
  cases Config.readTimesOut s.draws <;> rfl

end

theorem State.setD2h_self {d : List Byte} (h : s.link.d2h = d) : s.setD2h d = s := by
  subst h
  rfl

/-! ### The start and the open of a session (R559, R560) -/

/-- Settles O42: P_IDLE has one step and P_OPEN one for each value of its draw; before the open an error goes to
P_DONE_ERR. -/
theorem sessionStartAndOpen : Obligations.SessionStartAndOpen := by
  refine ⟨fun s hpc => ?_, fun s hpc hl he => ?_⟩
  · rw [seqTurn, hpc]
    rfl
  · have hp : s.tick.teardownPhase = .doneErr := if_pos hl
    rw [seqTurn, hpc]
    refine congrArg Host.Outcome.next ?_
    split
    · rw [State.raise, hp, State.recordErr, State.tick_seq, he]
      rfl
    · rfl

/-! ### The control transactions (R552, R562 to R565, R571) -/

section
variable {c : Byte} {expected : List Byte} {next : Phase}

theorem seqTurn_control (h : s.seq.control = some (step, c, expected, next)) :
    seqTurn s = ctrl step c expected next s := by
  cases hpc : s.seq.pc <;> simp only [Seq.control, hpc] at h <;> cases h <;> simp only [seqTurn, hpc] <;> rfl

/-- A whole reply ends a control transaction by the comparison alone (R552). -/
theorem endCtrl_whole {r : List Byte} (hr : r.length = expected.length) : endCtrl step expected next r s =
    if r = expected then (s.emit (.txEnd step r)).goto next
    else (s.emit (.txEnd step r)).raise (Err.of .ackMismatch step (exactly expected) r) := by
  unfold endCtrl
  split_ifs with h
  · rw [checkReply_none.mpr h]
  · rw [checkReply_mismatch hr.ge h]

theorem endCtrl_short {r : List Byte} (hr : r.length < expected.length) : endCtrl step expected next r s =
    (s.emit (.txEnd step r)).raise (Err.of .shortRead step (exactly expected) r) := by
  rw [endCtrl, checkReply_short hr]

end

/-- Settles O43: the turn is the control transaction's, at its write or at its one read. -/
theorem controlTransactions : Obligations.ControlTransactions := by
  intro s step c expected next hc
  rw [seqTurn_control hc]
  refine ⟨fun hp => ?_, fun hp hu hn => ?_, fun hp hu hn => ?_, fun hp hu => ?_⟩ <;> rw [ctrl, hp]
  · exact congrArg Host.Outcome.next (beginTx_eq step [c] s)
  · exact congrArg Host.Outcome.next ((onRead_present hu hn).trans (endCtrl_whole (List.length_take_of_le hn)))
  · exact congrArg Host.Outcome.next ((onRead_short hu hn).trans (if_congr Iff.rfl (endCtrl_short hn) rfl))
  · exact congrArg Host.Outcome.next (onRead_down hu)

/-! ### The framed transactions (R553, R566 to R569) -/

/-- The frame of a three-byte payload that reads one byte (R311, R312). -/
theorem frame_threeBytes (b0 b1 b2 : Byte) :
    frame [b0, b1, b2] oneRead = [0x04, 0x00, 0x03, 0x00, 0x01, b0, b1, b2] := by
  have hheader : header (BitVec.ofNat 16 3) oneRead = [0x04, 0x00, 0x03, 0x00, 0x01] := by decide
  exact congrArg (· ++ [b0, b1, b2]) hheader

/-- A framed phase is one framed transaction, and the bytes `Seq.framed` gives are its frame. -/
theorem seqTurn_framed {f : List Byte} {m : Nat} (h : s.seq.framed = some (step, f, m)) :
    ∃ p reads rest, frame p reads = f ∧ reads.toNat = m ∧ seqTurn s = xfer step p reads rest s := by
  cases hpc : s.seq.pc <;> simp only [Seq.framed, hpc] at h
  case pe =>
    cases h
    exact ⟨pePayload, peReads, endPe, rfl, rfl, by simp only [seqTurn, hpc]; rfl⟩
  case sig =>
    split at h <;> cases h
    next hi =>
      exact ⟨_, oneRead, _, frame_threeBytes _ _ _, rfl, seqTurn_sig (i := ⟨s.seq.sigIdx.val, hi⟩) hpc rfl⟩
  case rdl =>
    cases h
    exact ⟨_, oneRead, _, frame_threeBytes _ _ _, rfl, seqTurn_rdl hpc⟩
  case rdh =>
    cases h
    exact ⟨_, oneRead, _, frame_threeBytes _ _ _, rfl, seqTurn_rdh hpc⟩
  all_goals cases h

/-- An acknowledgment of one byte: 01 leads to the read of the reply, any other is a mismatch (R553). -/
theorem xferAck_byte (step : StepId) (b : Byte) (s : State) : xferAck step [b] s =
    if b = 0x01 then s.setPoint (.awaitReply [0x01])
    else (s.emit (.txEnd step [b])).raise (Err.of .ackMismatch step (exactly Param.ack) [b]) := by
  unfold xferAck
  split_ifs with h
  · subst h
    rfl
  · rw [checkReply_mismatch (le_refl 1) (by simpa [Param.ack] using h)]

theorem xferReply_short {m : Nat} {a r : List Byte} {rest : List Byte → State → State} (hr : r.length < m) :
    xferReply step m a rest r s = (s.emit (.txEnd step (a ++ r))).raise (Err.of .shortRead step (anyBytes m) r) :=
  if_pos hr

/-- Settles O44: the turn is the framed transaction's, at its write, at its acknowledgment or at its reply. -/
theorem framedTransactions : Obligations.FramedTransactions := by
  intro s step f m hf
  obtain ⟨p, reads, rest, rfl, rfl, hturn⟩ := seqTurn_framed hf
  rw [hturn]
  refine ⟨fun hp => ?_, fun b d hp hu hd => ?_, fun hp hu hd => ?_, fun a hp hu hn => ?_, fun hp hu => ?_⟩
  · rw [xfer, hp]
    exact congrArg Host.Outcome.next (beginTx_eq step _ s)
  · rw [xfer, hp]
    exact congrArg Host.Outcome.next ((onRead_append (r := [b]) hu hd rfl).trans (xferAck_byte step b _))
  · rw [xfer, hp]
    have hn : s.link.d2h.length < 1 := by simp [hd]
    refine congrArg Host.Outcome.next ((onRead_short hu hn).trans ?_)
    rw [hd, State.setD2h_self hd]
    rfl
  · rw [xfer, hp]
    exact congrArg Host.Outcome.next ((onRead_short hu hn).trans (if_congr Iff.rfl (xferReply_short hn) rfl))
  · cases hpt : s.seq.point
    case start => exact absurd hpt hp
    all_goals
      rw [xfer, hpt]
      exact congrArg Host.Outcome.next (onRead_down hu)

/-! ### The entry handshake (R561) -/

theorem seqTurn_entry (hpc : s.seq.pc = .entry) : seqTurn s = phaseEntry s := by
  rw [seqTurn, hpc]

/-- Settles O45: the turn is the attempt's write or its one read, and `endEntry` takes what the read returns. -/
theorem entryHandshake : Obligations.EntryHandshake := by
  intro s hpc
  rw [seqTurn_entry hpc]
  refine ⟨fun hp => ?_, fun hp hu => ?_, fun hp hu hn => ?_, fun hp hu hn => ?_⟩ <;> rw [phaseEntry, hp]
  · exact congrArg Host.Outcome.next (beginTx_eq .sEntry [Param.entry] _)
  · exact congrArg Host.Outcome.next (onRead_down hu)
  · exact congrArg Host.Outcome.next (onRead_present hu hn)
  · exact congrArg Host.Outcome.next (onRead_short hu hn)

/-! ### The exit and the close (R572 to R574) -/

/-- Settles O50: P_EXIT writes or finds the link down, P_CLOSE goes by the error record, and a final phase with no
session asked for does nothing. -/
theorem exitAndClose : Obligations.ExitAndClose := by
  refine ⟨fun s hpc => ?_, fun s hpc => ?_, fun s hpc hs => ?_⟩
  · rw [seqTurn, hpc]
    rfl
  · rw [seqTurn, hpc]
    cases he : s.seq.err <;> rw [phaseClose, he] <;> rfl
  · have hturn : seqTurn s = phaseDone s := by
      rcases hpc with hpc | hpc <;> rw [seqTurn, hpc]
    rw [hturn, phaseDone, hs]

end Sys2Proof.Machine
end

section
/-! PROOF. The order of a session's transactions (R575 to R577): what it says phase by phase, how the success path's
transactions go on from one phase to the next, and how many bytes they are. -/

namespace Sys2Proof.Machine

variable {q : Seq} {s t u : State} {step : StepId} {bs : List Byte} {tx now : Tx} {before : List Tx}

/-! ### The transactions of the success path (R576) -/

@[simp] theorem begun_append (l m : List Event) : begun (l ++ m) = begun l ++ begun m := by
  induction l with
  | nil => rfl
  | cons e l ih => cases e <;> simp [begun, ih]

@[simp] theorem begun_progress (p : Prop) [Decidable p] (n : Nat) : begun (if p then [.progress n] else []) = [] := by
  split <;> rfl

theorem scriptEntry_succ (k : Nat) : scriptEntry (k + 1) = scriptEntry k ++ [(.sEntry, [0x00])] :=
  List.replicate_succ'

theorem scriptToSig_succ (c : SessionCfg) (k n : Nat) :
    scriptToSig c k (n + 1) = scriptToSig c k n ++ [scriptSig n] := by
  simp [scriptToSig, List.range_succ]

theorem scriptSweep_succ (n : Nat) : scriptSweep (n + 1) = scriptSweep n ++ [scriptLow n, scriptHigh n] := by
  simp [scriptSweep, List.range_succ]

theorem scriptToSig_prefix (c : SessionCfg) (k : Nat) {n m : Nat} (h : n ≤ m) :
    scriptToSig c k n <+: scriptToSig c k m := by
  induction m, h using Nat.le_induction with
  | base => exact List.prefix_rfl
  | succ m _ ih => exact ih.trans (scriptToSig_succ c k m ▸ List.prefix_append _ _)

theorem scriptSweep_prefix {n m : Nat} (h : n ≤ m) : scriptSweep n <+: scriptSweep m := by
  induction m, h using Nat.le_induction with
  | base => exact List.prefix_rfl
  | succ m _ ih => exact ih.trans (scriptSweep_succ m ▸ List.prefix_append _ _)

theorem scriptToSig_prefix_script (c : SessionCfg) (k : Nat) {n : Nat} (h : n ≤ 3) :
    scriptToSig c k n <+: script c k := by
  refine (scriptToSig_prefix c k h).trans ?_
  rw [script, List.append_assoc]
  exact List.prefix_append _ _

theorem scriptSweep_prefix_script (c : SessionCfg) (k : Nat) {n : Nat} (h : n ≤ c.addrSpaceSize.val) :
    scriptToSig c k 3 ++ scriptSweep n <+: script c k :=
  ((List.prefix_append_right_inj _).mpr (scriptSweep_prefix h)).trans (List.prefix_append _ _)

/-! ### Where the success path stands in a phase (R575) -/

theorem progress_busSel (hpc : q.pc = .busSel) : q.progress = some (scriptEntry q.attempt, (.sBusSel, [0x01])) := by
  simp only [Seq.progress, hpc]
  exact congrArg (fun l => some (l, _)) (List.append_nil _)

theorem progress_pe (hpc : q.pc = .pe) : q.progress = some (scriptEntry q.attempt ++ (scriptSetup q.cfg).take 4,
    (.sPe, [0x04, 0x00, 0x04, 0x00, 0x04, 0xAC, 0x53, 0x00, 0x00])) := by
  simp only [Seq.progress, hpc]
  rfl

theorem progress_sig (hpc : q.pc = .sig) :
    q.progress = some (scriptToSig q.cfg q.attempt q.sigIdx.val, scriptSig q.sigIdx.val) := by
  simp only [Seq.progress, hpc]
  rfl

theorem progress_rdl (hpc : q.pc = .rdl) : q.progress =
    some (scriptToSig q.cfg q.attempt 3 ++ scriptSweep q.addr.toNat, scriptLow q.addr.toNat) := by
  simp only [Seq.progress, hpc]

theorem progress_rdh (hpc : q.pc = .rdh) : q.progress =
    some (scriptToSig q.cfg q.attempt 3 ++ scriptSweep q.addr.toNat ++ [scriptLow q.addr.toNat],
      scriptHigh q.addr.toNat) := by
  simp only [Seq.progress, hpc]

theorem progress_csHigh (hpc : q.pc = .csHigh) : q.progress =
    some (scriptToSig q.cfg q.attempt 3 ++ scriptSweep q.cfg.addrSpaceSize.val, txCsHigh) := by
  simp only [Seq.progress, hpc]

/-- Between two words of the sweep, before its first and after its last (R570). -/
theorem progress_nextWord (hp : q.pc = if q.addr.toNat < q.cfg.addrSpaceSize.val then .rdl else .csHigh)
    (hb : q.addr.toNat ≤ q.cfg.addrSpaceSize.val) :
    ∃ now, q.progress = some (scriptToSig q.cfg q.attempt 3 ++ scriptSweep q.addr.toNat, now) := by
  split at hp
  case isTrue => exact ⟨_, progress_rdl hp⟩
  case isFalse ha =>
    rw [show q.addr.toNat = q.cfg.addrSpaceSize.val by omega]
    exact ⟨_, progress_csHigh hp⟩

/-- A flash read's frame, with the address in the success path's form (R202, R576). -/
theorem frame_flashPayload (cmd : Byte) (a : SeqAddr) : frame (flashPayload cmd a) oneRead =
    [0x04, 0x00, 0x03, 0x00, 0x01, cmd, BitVec.ofNat 8 (a.toNat / 256), BitVec.ofNat 8 (a.toNat % 256)] := by
  rw [flashPayload_eq, frame_threeBytes]

/-- Where a phase but P_ENTRY begins a transaction, it is the one the success path has there. -/
theorem progress_of_transaction (hw : q.transaction = some tx) (hpc : q.pc ≠ .entry) :
    ∃ before, q.progress = some (before, tx) := by
  cases hp : q.pc <;> simp only [Seq.transaction, hp] at hw
  case entry => exact absurd hp hpc
  case busSel | cfg | speed | csLow | pe =>
    cases hw
    exact ⟨_, by simp only [Seq.progress, hp]; rfl⟩
  case sig =>
    split at hw <;> cases hw
    exact ⟨_, by rw [progress_sig hp, rsigPayload, frame_threeBytes]; rfl⟩
  case rdl =>
    cases hw
    exact ⟨_, by rw [progress_rdl hp, frame_flashPayload]; rfl⟩
  case rdh =>
    cases hw
    exact ⟨_, by rw [progress_rdh hp, frame_flashPayload]; rfl⟩
  case csHigh =>
    cases hw
    exact ⟨_, progress_csHigh hp⟩
  all_goals cases hw

/-- What a phase has begun is a first part of the success path (R575). -/
theorem progress_prefix_script (h : SeqInv q) (hp : q.progress = some (before, now)) :
    before ++ [now] <+: script q.cfg q.attempt := by
  cases hpc : q.pc
  case busSel | cfg | speed | csLow | pe =>
    simp only [Seq.progress, hpc] at hp
    cases hp
    rw [List.append_assoc]
    refine List.IsPrefix.trans ?_ (scriptToSig_prefix_script _ _ (Nat.zero_le 3))
    exact List.IsPrefix.trans ((List.prefix_append_right_inj _).mpr ⟨_, rfl⟩) (List.prefix_append _ _)
  case sig =>
    cases (progress_sig hpc).symm.trans hp
    rw [← scriptToSig_succ]
    exact scriptToSig_prefix_script _ _ (h.sigIndex hpc)
  case rdl =>
    obtain ⟨ha, -⟩ := h.imageLow hpc
    cases (progress_rdl hpc).symm.trans hp
    refine List.IsPrefix.trans ?_ (scriptSweep_prefix_script _ _ ha)
    rw [scriptSweep_succ]
    exact ⟨[scriptHigh q.addr.toNat], by simp⟩
  case rdh =>
    obtain ⟨ha, -⟩ := h.imageHigh hpc
    cases (progress_rdh hpc).symm.trans hp
    refine List.IsPrefix.trans ?_ (scriptSweep_prefix_script _ _ ha)
    rw [scriptSweep_succ]
    exact ⟨[], by simp⟩
  case csHigh =>
    cases (progress_csHigh hpc).symm.trans hp
    exact List.prefix_rfl
  all_goals simp [Seq.progress, hpc] at hp

/-- A control transaction that succeeds leads to the next phase of the success path, or to its end (R562 to R565,
R571). -/
theorem progress_control {c : Byte} {expected : List Byte} {next : Phase} {tr : List Event}
    (hc : q.control = some (step, c, expected, next)) (hp : q.progress = some (before, now)) :
    (next = .exit ∧ before ++ [now] = script q.cfg q.attempt) ∨
    ∃ now', { q with pc := next, point := .start, trace := tr }.progress = some (before ++ [now], now') := by
  cases hpc : q.pc <;> simp only [Seq.control, hpc] at hc <;> cases hc
  case csHigh =>
    cases (progress_csHigh hpc).symm.trans hp
    exact .inl ⟨rfl, rfl⟩
  all_goals
    simp only [Seq.progress, hpc] at hp
    cases hp
    exact .inr ⟨_, by rw [List.append_assoc]; rfl⟩

/-! ### The order, phase by phase -/

theorem transactionOrder_beforeEntry (hpc : q.pc = .idle ∨ q.pc = .opening) :
    TransactionOrder q ↔ begun q.trace = [] := by
  rcases hpc with hpc | hpc <;> simp only [TransactionOrder, hpc]

theorem transactionOrder_entry (hpc : q.pc = .entry) :
    TransactionOrder q ↔ begun q.trace = scriptEntry q.attempt := by
  simp only [TransactionOrder, hpc]

theorem transactionOrder_of_progress (hp : q.progress = some (before, now)) : TransactionOrder q ↔
    begun q.trace = if q.point = .start then before else before ++ [now] := by
  cases hpc : q.pc
  case busSel | cfg | speed | csLow | pe | sig | rdl | rdh | csHigh =>
    simp only [TransactionOrder, hpc]
    refine ⟨fun ⟨_, _, hp', hb⟩ => ?_, fun hb => ⟨before, now, hp, hb⟩⟩
    cases hp.symm.trans hp'
    exact hb
  all_goals simp [Seq.progress, hpc] at hp

theorem transactionOrder_exit (hpc : q.pc = .exit) : TransactionOrder q ↔
    begun q.trace <+: script q.cfg q.attempt ∧ (q.err = none → begun q.trace = script q.cfg q.attempt) := by
  simp only [TransactionOrder, hpc]

theorem transactionOrder_close (hpc : q.pc = .close) : TransactionOrder q ↔ ∃ p, p <+: script q.cfg q.attempt ∧
    begun q.trace = p ++ [txExit] ∧ (q.err = none → p = script q.cfg q.attempt) := by
  simp only [TransactionOrder, hpc]

theorem transactionOrder_doneOk (hpc : q.pc = .doneOk) : TransactionOrder q ↔
    begun q.trace = script q.cfg q.attempt ++ [txExit] := by
  simp only [TransactionOrder, hpc]

theorem transactionOrder_doneErr (hpc : q.pc = .doneErr) : TransactionOrder q ↔
    begun q.trace = [] ∨ ∃ p, p <+: script q.cfg q.attempt ∧ begun q.trace = p ++ [txExit] := by
  simp only [TransactionOrder, hpc]

/-- At the start of a phase the transactions before its own have begun. -/
theorem TransactionOrder.of_start (hpt : q.point = .start) (hp : q.progress = some (before, now))
    (hb : begun q.trace = before) : TransactionOrder q :=
  (transactionOrder_of_progress hp).mpr (hb.trans (if_pos hpt).symm)

/-- Between two words of the sweep (R570). -/
theorem TransactionOrder.of_nextWord (hpt : q.point = .start) (ha : q.addr.toNat ≤ q.cfg.addrSpaceSize.val)
    (hb : begun q.trace = scriptToSig q.cfg q.attempt 3 ++ scriptSweep q.addr.toNat)
    (hp : q.pc = if q.addr.toNat < q.cfg.addrSpaceSize.val then .rdl else .csHigh) : TransactionOrder q := by
  obtain ⟨now, hprog⟩ := progress_nextWord hp ha
  exact .of_start hpt hprog hb

/-- In a read, the transaction of the phase is the last one begun. -/
theorem TransactionOrder.reading (h : TransactionOrder q) (hprog : q.progress = some (before, now))
    (hp : q.point ≠ .start) : begun q.trace = before ++ [now] :=
  ((transactionOrder_of_progress hprog).mp h).trans (if_neg hp)

/-- Up to the end of the sweep the transactions begun are a first part of the success path. -/
theorem TransactionOrder.prefix_script (h : TransactionOrder q) (hi : SeqInv q) (hw : q.transaction ≠ none) :
    begun q.trace <+: script q.cfg q.attempt := by
  by_cases hpc : q.pc = .entry
  · rw [(transactionOrder_entry hpc).mp h]
    refine List.IsPrefix.trans ?_ (scriptToSig_prefix_script _ _ (Nat.zero_le 3))
    rw [scriptToSig, List.append_assoc]
    exact List.prefix_append _ _
  · obtain ⟨tx, hw⟩ := Option.ne_none_iff_exists'.mp hw
    obtain ⟨before, hprog⟩ := progress_of_transaction hw hpc
    have hall := progress_prefix_script hi hprog
    rw [(transactionOrder_of_progress hprog).mp h]
    split
    · exact (List.prefix_append _ _).trans hall
    · exact hall

/-! ### The steps of SEQ, one by one -/

/-- An error in a phase that holds the link sends SEQ to P_EXIT, where a first part of the success path is enough. -/
theorem TransactionOrder.raise {e : Err} (hc : u.seq.Clean) (hl : u.seq.linkOpen = true)
    (hb : begun u.seq.trace <+: script u.seq.cfg u.seq.attempt) : TransactionOrder (u.raise e).seq := by
  obtain ⟨-, -, hx⟩ := hc
  have hp : u.teardownPhase = .exit := by simp [State.teardownPhase, hl, hx]
  refine (transactionOrder_exit (by simp [hp])).mpr ⟨by simpa [begun] using hb, fun he => ?_⟩
  simp at he

/-- A transaction that begins is the next one of the success path; P_ENTRY counts it (R561). -/
theorem TransactionOrder.begins (h : TransactionOrder q) (hw : q.transaction = some (step, bs))
    (hp : q.point = .start) :
    TransactionOrder { q with attempt := q.attempts, point := .awaitAck, trace := q.trace ++ [.txBegin step bs] } := by
  by_cases hpc : q.pc = .entry
  · have hentry : q.transaction = some (.sEntry, [0x00]) := by simp only [Seq.transaction, hpc]; rfl
    cases hentry.symm.trans hw
    refine (transactionOrder_entry (by exact hpc)).mpr ?_
    rw [Seq.attempts, if_pos hpc, scriptEntry_succ, begun_append, (transactionOrder_entry hpc).mp h]
    rfl
  · obtain ⟨before, hprog⟩ := progress_of_transaction hw hpc
    rw [Seq.attempts, if_neg hpc]
    refine (transactionOrder_of_progress (by exact hprog)).mpr ?_
    rw [begun_append, ((transactionOrder_of_progress hprog).mp h).trans (if_pos hp)]
    rfl

theorem TransactionOrder.acknowledged (h : TransactionOrder q) (hf : q.framed ≠ none) (hp : q.point ≠ .start)
    {a : List Byte} : TransactionOrder { q with point := .awaitReply a } := by
  have hprog : ∃ before now, q.progress = some (before, now) := by
    cases hpc : q.pc
    case pe => exact ⟨_, _, progress_pe hpc⟩
    case sig => exact ⟨_, _, progress_sig hpc⟩
    case rdl => exact ⟨_, _, progress_rdl hpc⟩
    case rdh => exact ⟨_, _, progress_rdh hpc⟩
    all_goals simp [Seq.framed, hpc] at hf
  obtain ⟨before, now, hprog⟩ := hprog
  exact (transactionOrder_of_progress (by exact hprog)).mpr (h.reading hprog hp)

section
variable {st : StepId} {r : List Byte}

theorem TransactionOrder.controls (h : TransactionOrder q) {c : Byte} {expected : List Byte} {next : Phase}
    (hc : q.control = some (step, c, expected, next)) (hp : q.point ≠ .start) :
    TransactionOrder { q with pc := next, point := .start, trace := q.trace ++ [.txEnd st r] } := by
  obtain ⟨hw, hpc⟩ := control_transaction hc
  obtain ⟨before, hprog⟩ := progress_of_transaction hw hpc
  have htr : begun (q.trace ++ [.txEnd st r]) = before ++ [(step, [c])] := by simpa [begun] using h.reading hprog hp
  rcases progress_control hc hprog with ⟨rfl, hall⟩ | ⟨now', hnext⟩
  · refine (transactionOrder_exit rfl).mpr ?_
    rw [htr, hall]
    exact ⟨List.prefix_rfl, fun _ => rfl⟩
  · exact .of_start rfl hnext htr

/-- The program enable ends the set-up, and the signature's first byte is read next (R566). -/
theorem TransactionOrder.enables (h : TransactionOrder q) (hi : SeqInv q) (hpc : q.pc = .pe) (hp : q.point ≠ .start)
    {reply : List Byte} : TransactionOrder { q with
      pc := .sig, point := .start, peReply := some reply, trace := q.trace ++ [.txEnd st r] } := by
  have hidx : q.sigIdx = 0 := hi.sigFirst (by simp [hpc, Phase.beforeSweep]) (by simp [hpc])
  have htr : begun (q.trace ++ [.txEnd st r]) = scriptToSig q.cfg q.attempt q.sigIdx.val := by
    rw [begun_append, h.reading (progress_pe hpc) hp, hidx, List.append_assoc _ _ [_]]
    rfl
  exact .of_start rfl (progress_sig rfl) htr

/-- A matching signature byte leads to the next one, and the last to the sweep's first word (R567). -/
theorem TransactionOrder.afterSig (h : TransactionOrder s.seq) (hi : SeqInv s.seq) {i : Fin 3} {b : Byte}
    (hpc : s.seq.pc = .sig) (hidx : s.seq.sigIdx.val = i.val) (hp : s.seq.point ≠ .start) :
    TransactionOrder (afterSig i (((s.emit (.txEnd st r)).setSigGot i b).setSigIdx i.succ)).seq := by
  have haddr : s.seq.addr = 0 := (hi.imageEmpty (by simp [hpc, Phase.beforeSweep])).2
  have htr : begun (s.seq.trace ++ [.txEnd st r]) = scriptToSig s.seq.cfg s.seq.attempt (i.val + 1) := by
    rw [begun_append, h.reading (progress_sig hpc) hp, hidx, scriptToSig_succ]
    exact List.append_nil _
  rw [afterSig_seq i (s := ((s.emit (.txEnd st r)).setSigGot i b).setSigIdx i.succ) haddr]
  split
  case isTrue => exact .of_start rfl (progress_sig rfl) htr
  case isFalse hi2 =>
    rw [show i.val + 1 = 3 by omega] at htr
    exact .of_nextWord rfl hi.addrBound (by simpa [haddr, scriptSweep] using htr) (by simp [haddr])

theorem TransactionOrder.checkSig (h : TransactionOrder s.seq) (hi : SeqInv s.seq) {i : Fin 3} {b : Byte}
    (hpc : s.seq.pc = .sig) (hidx : s.seq.sigIdx.val = i.val) (hp : s.seq.point ≠ .start) :
    TransactionOrder (checkSig i b (s.emit (.txEnd st r))).seq := by
  have ht : s.seq.transaction ≠ none := by simp [Seq.transaction, hpc, hidx]
  unfold Machine.checkSig
  split
  case isTrue =>
    exact .raise (hi.clean_of_transaction ht) (hi.open_of_transaction ht) (by simpa [begun] using h.prefix_script hi ht)
  case isFalse => exact h.afterSig hi hpc hidx hp

theorem TransactionOrder.readsLow (h : TransactionOrder s.seq) (hpc : s.seq.pc = .rdl) (hp : s.seq.point ≠ .start)
    {b : Byte} : TransactionOrder (((s.emit (.txEnd st r)).imgAppend b).goto .rdh).seq :=
  .of_start rfl (progress_rdh rfl) (by simpa [begun] using h.reading (progress_rdl hpc) hp)

/-- The high read ends its word, and the sweep goes on or ends (R569, R570). -/
theorem TransactionOrder.readsHigh (h : TransactionOrder s.seq) (hi : SeqInv s.seq) (hpc : s.seq.pc = .rdh)
    (hp : s.seq.point ≠ .start) {b : Byte} :
    TransactionOrder (advanceSweep (((s.emit (.txEnd st r)).imgAppend b).setAddr (s.seq.addr + 1))).seq := by
  obtain ⟨ha, -⟩ := hi.imageHigh hpc
  have hnext := addr_succ_toNat ha
  have hb : begun s.seq.trace = scriptToSig s.seq.cfg s.seq.attempt 3 ++ scriptSweep (s.seq.addr + 1).toNat := by
    rw [h.reading (progress_rdh hpc) hp, hnext, scriptSweep_succ]
    simp
  rw [advanceSweep_eq]
  exact .of_nextWord rfl (hnext.trans_le ha) (Eq.trans (by simp [begun]) hb) rfl

/-- The mode-exit sequence comes last, and after the whole success path if no error is recorded (R572). -/
theorem TransactionOrder.exits (h : TransactionOrder q) (hpc : q.pc = .exit) {n : Nat} :
    TransactionOrder { q with
      pc := .close, point := .start, exitCount := n
      trace := q.trace ++ [.txBegin .sExit Param.exitSequence] ++ [.txEnd st r] } := by
  obtain ⟨hb, hall⟩ := (transactionOrder_exit hpc).mp h
  refine (transactionOrder_close rfl).mpr ⟨begun q.trace, hb, ?_, hall⟩
  rw [List.append_assoc, begun_append]
  rfl

end

/-- An exit whose write fails has begun the sequence all the same, and the error is recorded (R572, R711). -/
theorem TransactionOrder.exitsLost (h : TransactionOrder s.seq) (hi : SeqInv s.seq) (hpc : s.seq.pc = .exit)
    {e : Err} : TransactionOrder
    (((s.setExitCount (s.seq.exitCount + 1)).emit (.txBegin .sExit Param.exitSequence)).raise e).seq := by
  obtain ⟨hb, -⟩ := (transactionOrder_exit hpc).mp h
  obtain ⟨hl, -⟩ := hi.teardown (.inl hpc)
  have hp : ((s.setExitCount (s.seq.exitCount + 1)).emit
      (.txBegin .sExit Param.exitSequence)).teardownPhase = .close := by
    simp [State.teardownPhase, hl]
  refine (transactionOrder_close (by simp [hp])).mpr ⟨begun s.seq.trace, hb, ?_, fun he => ?_⟩
  · simp [begun, txExit, Param.exitSequence, Param.exitBbio, Param.resetTerm]
  · simp at he

theorem TransactionOrder.openFails (h : TransactionOrder s.seq) (hi : SeqInv s.seq) (hpc : s.seq.pc = .opening)
    {e : Err} : TransactionOrder (s.raise e).seq := by
  have hl : s.seq.linkOpen = false := by simpa [hpc, Phase.linked] using hi.linkOpen
  have hp : s.teardownPhase = .doneErr := by simp [State.teardownPhase, hl]
  refine (transactionOrder_doneErr (by simp [hp])).mpr (.inl ?_)
  simpa [begun] using (transactionOrder_beforeEntry (.inr hpc)).mp h

/-- Every turn of SEQ but the one that begins a transaction keeps the order. -/
theorem SeqStep.keeps_order (st : SeqStep s t) (h : TransactionOrder s.seq) (hi : SeqInv s.seq)
    (hread : s.seq.transaction ≠ none → s.seq.point ≠ .start) : TransactionOrder t.seq := by
  cases st with
  | starts hpc =>
    have hnone := (transactionOrder_beforeEntry (.inl hpc)).mp h
    exact (transactionOrder_beforeEntry (.inr rfl)).mpr (by simpa [begun] using hnone)
  | openFails hpc => exact TransactionOrder.openFails (s := s.tick) h hi hpc
  | opens hpc =>
    have hnone := (transactionOrder_beforeEntry (.inr hpc)).mp h
    exact (transactionOrder_entry rfl).mpr (by simpa [hi.attemptFirst (.inr hpc), scriptEntry] using hnone)
  | begins hw hp | beginsLost hw hp => exact absurd hp (hread (by simp [hw]))
  | readsLost hw =>
    have ht : s.seq.transaction ≠ none := by simp [hw]
    exact .raise (hi.clean_of_transaction ht) (hi.open_of_transaction ht) (h.prefix_script hi ht)
  | holds => exact h
  | replyFails hw =>
    have ht : s.seq.transaction ≠ none := by simp [hw]
    exact .raise (hi.clean_of_transaction ht) (hi.open_of_transaction ht) (by simpa [begun] using h.prefix_script hi ht)
  | acknowledged hf hp => exact h.acknowledged hf (by simp [hp])
  | entersAgain hpc =>
    exact (transactionOrder_entry rfl).mpr (by simpa [begun] using (transactionOrder_entry hpc).mp h)
  | enters hpc =>
    exact .of_start rfl (progress_busSel rfl) (by simpa [begun] using (transactionOrder_entry hpc).mp h)
  | controls hc => exact h.controls hc (hread (by simp [control_transaction hc]))
  | enables hpc hp => exact h.enables hi hpc (by simp [hp])
  | @signs _ _ _ d k hpc hidx hp => exact TransactionOrder.checkSig (s := s.took d k) h hi hpc hidx (by simp [hp])
  | @readsLow _ _ d k hpc hp => exact TransactionOrder.readsLow (s := s.took d k) h hpc (by simp [hp])
  | @readsHigh _ _ d k hpc hp => exact TransactionOrder.readsHigh (s := s.took d k) h hi hpc (by simp [hp])
  | exits hpc => exact h.exits hpc
  | exitsLost hpc => exact h.exitsLost hi hpc
  | publishes hpc he =>
    obtain ⟨p, -, hb, hall⟩ := (transactionOrder_close hpc).mp h
    exact (transactionOrder_doneOk rfl).mpr (by simpa [begun, hall he] using hb)
  | closes hpc =>
    obtain ⟨p, hpre, hb, -⟩ := (transactionOrder_close hpc).mp h
    exact (transactionOrder_doneErr rfl).mpr (.inr ⟨p, hpre, by simpa [begun] using hb⟩)
  | rests => exact h
  | restarts => exact (transactionOrder_beforeEntry (.inl rfl)).mpr rfl

/-! ### The turn that begins a transaction -/

/-- Only P_ENTRY counts its attempts (R561). -/
theorem setAttempts_of_not_entry (hpc : s.seq.pc ≠ .entry) : s.setAttempt s.seq.attempts = s := by
  rw [Seq.attempts, if_neg hpc]
  rfl

theorem ctrl_start {c : Byte} {expected : List Byte} {next : Phase} (hp : s.seq.point = .start) :
    ctrl step c expected next s = .next (beginTx step [c] s) := by
  rw [ctrl, hp]

theorem xfer_start {p : List Byte} {m : Count} {rest : List Byte → State → State} (hp : s.seq.point = .start) :
    xfer step p m rest s = .next (beginTx step (frame p m) s) := by
  rw [xfer, hp]

/-- The first turn of a phase that issues a transaction begins it (R551). -/
theorem seqTurn_begins (hw : s.seq.transaction = some (step, bs)) (hp : s.seq.point = .start) :
    seqTurn s = .next (beginTx step bs (s.setAttempt s.seq.attempts)) := by
  by_cases hentry : s.seq.pc = .entry
  · simp only [Seq.transaction, hentry] at hw
    cases hw
    rw [seqTurn_entry hentry, phaseEntry, hp, Seq.attempts, if_pos hentry]
  · rw [setAttempts_of_not_entry hentry]
    cases hpc : s.seq.pc <;> simp only [Seq.transaction, hpc] at hw
    case busSel | cfg | speed | csLow | csHigh =>
      cases hw
      exact (seqTurn_control (by simp only [Seq.control, hpc]; rfl)).trans (ctrl_start hp)
    case pe =>
      cases hw
      rw [seqTurn, hpc]
      exact xfer_start hp
    case sig =>
      split at hw <;> cases hw
      next hi => exact (seqTurn_sig (i := ⟨s.seq.sigIdx, hi⟩) hpc rfl).trans (xfer_start hp)
    case rdl =>
      cases hw
      exact (seqTurn_rdl hpc).trans (xfer_start hp)
    case rdh =>
      cases hw
      exact (seqTurn_rdh hpc).trans (xfer_start hp)
    case entry => exact absurd hpc hentry
    all_goals cases hw

/-- A transaction that begins keeps the order, and so does one that finds the link down: it is begun all the same
(R124, R552, R553). -/
theorem beginTx_keeps_order (hi : SeqInv s.seq) (h : TransactionOrder s.seq)
    (hw : s.seq.transaction = some (step, bs)) (hp : s.seq.point = .start) :
    TransactionOrder (beginTx step bs (s.setAttempt s.seq.attempts)).seq := by
  have ht : s.seq.transaction ≠ none := by simp [hw]
  rw [beginTx_eq]
  split
  · exact h.begins hw hp
  · exact .raise (hi.clean_of_transaction ht) (hi.open_of_transaction ht)
      ((h.begins hw hp).prefix_script (hi.begins hw hp) ht)

theorem seqTurn_keeps_order (hi : SeqInv s.seq) (h : TransactionOrder s.seq) (ht : seqTurn s = .next t) :
    TransactionOrder t.seq := by
  by_cases hread : s.seq.transaction ≠ none → s.seq.point ≠ .start
  · exact (seqTurn_step ht).keeps_order h hi hread
  · obtain ⟨hsome, hstart⟩ := Classical.not_imp.mp hread
    obtain ⟨⟨step, bs⟩, hw⟩ := Option.ne_none_iff_exists'.mp hsome
    have hp := not_not.mp hstart
    cases (seqTurn_begins hw hp).symm.trans ht
    exact beginTx_keeps_order hi h hw hp

/-- Settles O57: of the agents only SEQ moves; its turn that begins a transaction begins the success path's next one,
and every other turn is a case of `SeqStep.keeps_order`. -/
theorem everyStepKeepsTheTransactionOrder : Obligations.EveryStepKeepsTheTransactionOrder := by
  intro s t hi h hstep
  obtain ⟨u, hu, rfl⟩ := step_next hstep
  change TransactionOrder u.seq
  unfold agentTurn at hu
  cases hturn : s.turn <;> rw [hturn] at hu
  case seq => exact seqTurn_keeps_order hi.seq h hu
  case dec =>
    obtain ⟨hseq, -, -⟩ := decTurn_frame hu
    exact hseq ▸ h
  case link => cases hu; exact h

/-! ### The bytes of the success path (R576) -/

theorem txBytes_append (l m : List Tx) : txBytes (l ++ m) = txBytes l ++ txBytes m := List.flatMap_append

theorem txBytes_scriptEntry (k : Nat) : (txBytes (scriptEntry k)).length = k := by
  induction k with
  | zero => rfl
  | succ k ih => rw [scriptEntry_succ, txBytes_append, List.length_append, ih]; rfl

theorem txBytes_scriptSweep (n : Nat) : (txBytes (scriptSweep n)).length = 16 * n := by
  induction n with
  | zero => rfl
  | succ n ih => rw [scriptSweep_succ, txBytes_append, List.length_append, ih]; rfl

theorem txBytes_script (c : SessionCfg) (k : Nat) :
    (txBytes (script c k)).length = k + 38 + 16 * c.addrSpaceSize.val := by
  have hsetup : (txBytes (scriptSetup c)).length = 13 := rfl
  have hsig : (txBytes ((List.range 3).map scriptSig)).length = 24 := rfl
  have hcs : (txBytes [txCsHigh]).length = 1 := rfl
  simp only [script, scriptToSig, txBytes_append, List.length_append, txBytes_scriptEntry, txBytes_scriptSweep]
  omega

/-- Settles O59: in both phases the order says that the whole success path has begun. -/
theorem successPathByteCount : Obligations.SuccessPathByteCount := by
  intro s hi h
  refine ⟨fun hpc => ?_, fun hpc he => ?_⟩
  · rw [(transactionOrder_doneOk hpc).mp h, txBytes_append, List.length_append, txBytes_script]
    rfl
  · rw [((transactionOrder_exit hpc).mp h).2 he, txBytes_script]

end Sys2Proof.Machine
end

section
/-! PROOF. The sequencer's errors (R701, R707, R711) and the start of a further session (R714, R802, R803). -/

namespace Sys2Proof.Machine

/-- The kind of an error made for a sub-cause is the sub-cause's (R701). -/
theorem Err.of_kind (sub : ErrSub) (step : StepId) (expected : List Pat) (actual : List Byte) :
    (Err.of sub step expected actual).kind = sub.kind := rfl

/-- Settles O38: an error has the kind of its sub-cause, and the table gives kind and code of each. -/
theorem errorCodes : Obligations.ErrorCodes := by
  intro step exp act
  simp [Err.of_kind, ErrSub.kind, ErrSub.code]

/-- Settles O39, step identifier by step identifier. -/
theorem operatorText : Obligations.OperatorText := by
  intro e
  cases h : e.step <;> simp [Err.operatorText, h]

/-- Settles O37: an error already recorded stays, and the phase is the one of `teardownPhase`, at its start. -/
theorem raiseRecordsTheFirstErrorAndTearsDown : Obligations.RaiseRecordsTheFirstErrorAndTearsDown := by
  intro s e
  have herr : s.seq.err.or (some e) = if s.seq.err = none then some e else s.seq.err := by
    cases s.seq.err <;> rfl
  exact ⟨.start, by rw [← herr]; rfl⟩

theorem seqTurn_over {s : State} (hpc : s.seq.pc = .doneOk ∨ s.seq.pc = .doneErr) : seqTurn s = phaseDone s := by
  rcases hpc with hpc | hpc <;> rw [seqTurn, hpc]

/-- Settles O34: both final phases start the session at the head of the list. -/
theorem nextSessionResetsOnlyTheSequencer : Obligations.NextSessionResetsOnlyTheSequencer := by
  intro s c rest hpc hs
  rw [seqTurn_over hpc, phaseDone, hs]
  rfl

end Sys2Proof.Machine
end

section
/-! PROOF. The trace is never read (R742): every operation of DEC leaves it where it is, and every phase of SEQ does
to a state with another trace what it does to the state itself. -/

namespace Sys2Proof.Machine

/-- The same state with another trace. -/
def State.withTrace (s : State) (tr : List Event) : State := { s with seq := { s.seq with trace := tr } }

@[simp] theorem State.withTrace_dec (s : State) (tr : List Event) : (s.withTrace tr).dec = s.dec := rfl
@[simp] theorem State.withTrace_turn (s : State) (tr : List Event) : (s.withTrace tr).turn = s.turn := rfl
@[simp] theorem State.withTrace_sessions (s : State) (tr : List Event) :
    (s.withTrace tr).sessions = s.sessions := rfl
@[simp] theorem State.withTrace_seq_pc (s : State) (tr : List Event) : (s.withTrace tr).seq.pc = s.seq.pc := rfl
@[simp] theorem State.withTrace_seq_point (s : State) (tr : List Event) :
    (s.withTrace tr).seq.point = s.seq.point := rfl
@[simp] theorem State.withTrace_seq_err (s : State) (tr : List Event) : (s.withTrace tr).seq.err = s.seq.err := rfl

theorem State.emit_withTrace (s : State) (tr : List Event) (e : Event) :
    (s.withTrace tr).emit e = (s.emit e).withTrace (tr ++ [e]) := rfl

/-- t is s but for the trace. -/
def State.SameButTrace (s t : State) : Prop := ∃ tr, t = s.withTrace tr

/-- An update that does not read the trace: states that differ in it alone, it leads to states that differ in it
alone. -/
def UpdateIgnoresTrace (f : State → State) : Prop := ∀ s tr, (f s).SameButTrace (f (s.withTrace tr))

/-- A turn that does not read the trace: if it has a next state, it has one from any other trace, and the two differ
in the trace alone. -/
def TurnIgnoresTrace (f : State → Result) : Prop :=
  ∀ s t tr, f s = .next t → ∃ tr', f (s.withTrace tr) = .next (t.withTrace tr')

/-- A choice both states make alike. -/
theorem State.SameButTrace.ite {c : Prop} [Decidable c] {s s' t t' : State} (hs : s.SameButTrace s')
    (ht : t.SameButTrace t') : (if c then s else t).SameButTrace (if c then s' else t') := by
  split
  · exact hs
  · exact ht

theorem UpdateIgnoresTrace.turn {f : State → State} (h : UpdateIgnoresTrace f) :
    TurnIgnoresTrace fun s => .next (f s) := by
  intro s t tr ht
  cases ht
  obtain ⟨tr', e⟩ := h s tr
  exact ⟨tr', congrArg Host.Outcome.next e⟩

/-! ### DEC (R152, R400) -/

theorem writePhase_withTrace (p : List Byte) (s : State) (tr : List Event) :
    writePhase p (s.withTrace tr) = (writePhase p s).withTrace tr := by
  induction p generalizing s with
  | nil => rfl
  | cons b rest ih => exact ih (exchange b s).2

theorem readPhase_withTrace (m : Nat) (s : State) (tr : List Event) :
    readPhase m (s.withTrace tr) = ((readPhase m s).1, (readPhase m s).2.withTrace tr) := by
  induction m generalizing s with
  | zero => rfl
  | succ m ih =>
    have hrest : readPhase m (exchange Config.fillByte (s.withTrace tr)).2 = _ := ih (exchange Config.fillByte s).2
    simp only [readPhase, hrest]
    rfl

theorem completeFrame_withTrace (p : List Byte) (m : Count) (s : State) (tr : List Event) :
    completeFrame p m (s.withTrace tr) = (completeFrame p m s).withTrace tr := by
  have hw : writePhase p ((s.withTrace tr).setParse .idle) = _ := writePhase_withTrace p (s.setParse .idle) tr
  simp only [completeFrame, wtrExecute, hw, readPhase_withTrace]
  rfl

theorem acceptHeader_withTrace (n m : Count) (s : State) (tr : List Event) :
    acceptHeader n m (s.withTrace tr) = (acceptHeader n m s).withTrace tr := by
  unfold acceptHeader
  rw [completeFrame_withTrace]
  split
  · rfl
  · split <;> rfl

/-- An instruction of DEC neither reads nor writes the trace. -/
theorem exec_withTrace (i : Instr) (s : State) (tr : List Event) :
    exec i (s.withTrace tr) = andThen (exec i s) fun t => .next (t.withTrace tr) := by
  cases i with
  | tEntry | xAny =>
    refine congrArg Host.Outcome.next (.trans ?_ (apply_ite (fun t : State => t.withTrace tr) _ _ _).symm)
    rfl
  | sWtrHdr b =>
    simp only [exec, execSWtrHdr, State.withTrace_dec, acceptHeader_withTrace]
    repeat' split
    all_goals rfl
  | sWtrData b =>
    simp only [exec, execSWtrData, State.withTrace_dec, completeFrame_withTrace]
    repeat' split
    all_goals rfl
  | ispPe | ispRsig | ispRdl | ispRdh => exact congrArg Host.Outcome.next (completeFrame_withTrace _ _ s tr)
  | tOther | bEntry | bSpiSelect | bResetTerm | bUndef | sExitBbio | sCsLow | sCsHigh | sCfg | sSpeed | sWtr
  | sUndef => rfl

theorem decTurn_ignoresTrace : TurnIgnoresTrace decTurn := by
  intro s t tr ht
  refine ⟨tr, ?_⟩
  cases hh : s.link.h2d with
  | nil =>
    cases (decTurn_nil hh).symm.trans ht
    exact decTurn_nil hh
  | cons b rest =>
    rw [decTurn_cons hh] at ht
    rw [decTurn_cons (s := s.withTrace tr) hh]
    exact (exec_withTrace (s.decodes b) (s.setH2d rest) tr).trans (congrArg (andThen · _) ht)

/-! ### Reads, writes and the transaction primitives (R124, R552, R553) -/

section
variable {step : StepId} {n : Nat}

theorem linkWrite_ignoresTrace {bs : List Byte} {rest : State → State} (h : UpdateIgnoresTrace rest) :
    UpdateIgnoresTrace fun s => linkWrite step bs s rest :=
  fun s tr => .ite (h (s.pushH2d bs) tr) ⟨_, rfl⟩

/-- A read finds the same in both states: it looks at the link and the draw counter only. -/
theorem onRead_ignoresTrace {rest : List Byte → State → State} (h : ∀ r, UpdateIgnoresTrace (rest r)) :
    UpdateIgnoresTrace fun s => onRead step n s rest := by
  intro s tr
  dsimp only
  cases hu : s.link.up
  · rw [onRead_down hu, onRead_down (s := s.withTrace tr) hu]
    exact ⟨_, rfl⟩
  by_cases hn : n ≤ s.link.d2h.length
  · rw [onRead_present hu hn, onRead_present (s := s.withTrace tr) hu hn]
    exact h _ (s.setD2h (s.link.d2h.drop n)) tr
  · rw [onRead_short hu (Nat.not_le.mp hn), onRead_short (s := s.withTrace tr) hu (Nat.not_le.mp hn)]
    exact .ite (h _ (s.setD2h []).tick tr) ⟨_, rfl⟩

theorem beginTx_ignoresTrace {bs : List Byte} : UpdateIgnoresTrace (beginTx step bs) := by
  intro s tr
  rw [beginTx, beginTx, State.emit_withTrace]
  exact linkWrite_ignoresTrace (fun _ _ => ⟨_, rfl⟩) _ _

theorem ctrl_ignoresTrace {c : Byte} {expected : List Byte} {next : Phase} :
    TurnIgnoresTrace (ctrl step c expected next) := by
  have hend : ∀ r, UpdateIgnoresTrace (endCtrl step expected next r) := fun r s tr => by
    unfold endCtrl
    split <;> exact ⟨_, rfl⟩
  intro s t tr ht
  unfold ctrl at ht ⊢
  rw [State.withTrace_seq_point]
  cases hp : s.seq.point <;> rw [hp] at ht
  case start => exact beginTx_ignoresTrace.turn s t tr ht
  case awaitAck => exact (onRead_ignoresTrace hend).turn s t tr ht
  case awaitReply => cases ht

theorem xferAck_ignoresTrace (a : List Byte) : UpdateIgnoresTrace (xferAck step a) := by
  intro s tr
  unfold xferAck
  split <;> exact ⟨_, rfl⟩

theorem xferReply_ignoresTrace {m : Nat} {a : List Byte} {rest : List Byte → State → State}
    (h : ∀ r, UpdateIgnoresTrace (rest r)) (r : List Byte) : UpdateIgnoresTrace (xferReply step m a rest r) := by
  intro s tr
  unfold xferReply
  split
  · exact ⟨_, rfl⟩
  · exact h r (s.emit (.txEnd step (a ++ r))) (tr ++ [.txEnd step (a ++ r)])

theorem xfer_ignoresTrace {p : List Byte} {m : Count} {rest : List Byte → State → State}
    (h : ∀ r, UpdateIgnoresTrace (rest r)) : TurnIgnoresTrace (xfer step p m rest) := by
  intro s t tr ht
  unfold xfer at ht ⊢
  rw [State.withTrace_seq_point]
  cases hp : s.seq.point <;> rw [hp] at ht
  case start => exact beginTx_ignoresTrace.turn s t tr ht
  case awaitAck => exact (onRead_ignoresTrace xferAck_ignoresTrace).turn s t tr ht
  case awaitReply => exact (onRead_ignoresTrace (xferReply_ignoresTrace h)).turn s t tr ht

end

/-! ### The ends of the phases (R561, R566 to R570) -/

theorem endEntry_ignoresTrace (r : List Byte) : UpdateIgnoresTrace (endEntry r) :=
  fun _ _ => .ite ⟨_, rfl⟩ (.ite ⟨_, rfl⟩ ⟨_, rfl⟩)

theorem afterSig_ignoresTrace (i : Fin 3) : UpdateIgnoresTrace (afterSig i) :=
  fun _ _ => .ite ⟨_, rfl⟩ (.ite ⟨_, rfl⟩ ⟨_, rfl⟩)

theorem endSig_ignoresTrace (i : Fin 3) (r : List Byte) : UpdateIgnoresTrace (endSig i r) := by
  intro s tr
  cases r with
  | nil => exact ⟨_, rfl⟩
  | cons b _ => exact .ite ⟨_, rfl⟩ (afterSig_ignoresTrace i ((s.setSigGot i b).setSigIdx i.succ) tr)

theorem endRdl_ignoresTrace (r : List Byte) : UpdateIgnoresTrace (endRdl r) := by
  intro s tr
  cases r <;> exact ⟨_, rfl⟩

theorem endRdh_ignoresTrace (r : List Byte) : UpdateIgnoresTrace (endRdh r) := by
  intro s tr
  cases r with
  | nil => exact ⟨_, rfl⟩
  | cons b _ => exact ⟨_, by rw [endRdh, endRdh, advanceSweep_eq, advanceSweep_eq]; rfl⟩

/-! ### SEQ's turn, phase by phase (R559 to R574) -/

theorem phaseOpen_ignoresTrace : TurnIgnoresTrace phaseOpen :=
  UpdateIgnoresTrace.turn fun _ _ => .ite ⟨_, rfl⟩ ⟨_, rfl⟩

theorem phaseEntry_ignoresTrace : TurnIgnoresTrace phaseEntry := by
  intro s t tr ht
  unfold phaseEntry at ht ⊢
  rw [State.withTrace_seq_point]
  cases hp : s.seq.point <;> rw [hp] at ht
  case start => exact beginTx_ignoresTrace.turn (s.setAttempt (s.seq.attempt + 1)) t tr ht
  case awaitAck => exact (onRead_ignoresTrace endEntry_ignoresTrace).turn s t tr ht
  case awaitReply => cases ht

theorem phaseSig_ignoresTrace : TurnIgnoresTrace phaseSig := by
  intro s t tr ht
  unfold phaseSig at ht
  split at ht
  case isTrue hi =>
    obtain ⟨tr', e⟩ := xfer_ignoresTrace (endSig_ignoresTrace ⟨s.seq.sigIdx, hi⟩) s t tr ht
    exact ⟨tr', (dif_pos hi).trans e⟩
  case isFalse => cases ht

theorem phaseExit_ignoresTrace : TurnIgnoresTrace phaseExit := by
  refine UpdateIgnoresTrace.turn fun s tr => ?_
  have hemit : ((s.withTrace tr).setExitCount ((s.withTrace tr).seq.exitCount + 1)).emit
      (.txBegin .sExit Param.exitSequence) =
      ((s.setExitCount (s.seq.exitCount + 1)).emit (.txBegin .sExit Param.exitSequence)).withTrace
        (tr ++ [.txBegin .sExit Param.exitSequence]) := rfl
  rw [hemit]
  exact linkWrite_ignoresTrace (fun _ _ => ⟨_, rfl⟩) _ _

theorem phaseClose_ignoresTrace : TurnIgnoresTrace phaseClose := by
  intro s t tr ht
  unfold phaseClose at ht ⊢
  rw [State.withTrace_seq_err]
  cases he : s.seq.err <;> rw [he] at ht <;> cases ht <;> exact ⟨_, rfl⟩

theorem phaseDone_ignoresTrace : TurnIgnoresTrace phaseDone := by
  intro s t tr ht
  unfold phaseDone at ht ⊢
  rw [State.withTrace_sessions]
  cases hs : s.sessions <;> rw [hs] at ht <;> cases ht <;> exact ⟨_, rfl⟩

theorem seqTurn_ignoresTrace : TurnIgnoresTrace seqTurn := by
  intro s t tr ht
  unfold seqTurn at ht ⊢
  rw [State.withTrace_seq_pc]
  cases hpc : s.seq.pc <;> rw [hpc] at ht
  case idle => cases ht; exact ⟨_, rfl⟩
  case opening => exact phaseOpen_ignoresTrace s t tr ht
  case entry => exact phaseEntry_ignoresTrace s t tr ht
  case busSel | cfg | speed | csLow | csHigh => exact ctrl_ignoresTrace s t tr ht
  case pe => exact xfer_ignoresTrace (fun _ _ _ => ⟨_, rfl⟩) s t tr ht
  case sig => exact phaseSig_ignoresTrace s t tr ht
  case rdl => exact xfer_ignoresTrace endRdl_ignoresTrace s t tr ht
  case rdh => exact xfer_ignoresTrace endRdh_ignoresTrace s t tr ht
  case exit => exact phaseExit_ignoresTrace s t tr ht
  case close => exact phaseClose_ignoresTrace s t tr ht
  case doneOk | doneErr => exact phaseDone_ignoresTrace s t tr ht

/-! ### Every step -/

theorem agentTurn_ignoresTrace : TurnIgnoresTrace agentTurn := by
  intro s t tr ht
  unfold agentTurn at ht ⊢
  rw [State.withTrace_turn]
  cases hturn : s.turn <;> rw [hturn] at ht
  case seq => exact seqTurn_ignoresTrace s t tr ht
  case dec => exact decTurn_ignoresTrace s t tr ht
  case link => cases ht; exact ⟨tr, rfl⟩

/-- Settles O52: neither the end of a run nor the draw of the next turn looks at SEQ's trace, and no agent's turn
does. -/
theorem traceDoesNotChangeBehaviour : Obligations.TraceDoesNotChangeBehaviour := by
  intro s t tr hstep
  have hend : s.ended = false := by
    by_contra h
    cases (step_runEnded_iff.mpr (by simpa using h)).symm.trans hstep
  obtain ⟨u, hu, rfl⟩ := step_next hstep
  obtain ⟨tr', e⟩ := agentTurn_ignoresTrace s u tr hu
  refine ⟨tr', (step_of_not_ended (s := s.withTrace tr) hend).trans ?_⟩
  rw [e]
  rfl

end Sys2Proof.Machine
end

section
/-! PROOF. The state after reset: the values of R801 and R802, the invariant and the order of transactions. -/

namespace Sys2Proof.Machine

/-- Settles O33: reset is put together from the power-on and the session-start values, SEQ at the start of P_IDLE. -/
theorem resetLeavesTheSpecValues : Obligations.ResetLeavesTheSpecValues :=
  ⟨rfl, rfl, rfl, ⟨.start, rfl⟩, rfl⟩

/-- The first session has the values the spec decides (R8, D27, C1). -/
theorem SessionCfg.first_legal : SessionCfg.first.legal := ⟨rfl, rfl, rfl, rfl, rfl⟩

/-- DEC powers on with its parser idle and no ENTRY byte counted (R801). -/
theorem Dec.powerOn_inv : DecInv Dec.powerOn := decInv_of_idle rfl entryThreshold_pos fun _ => rfl

/-- Settles O53: SEQ is at a session's start, DEC at power-on, no further session is asked for, and the link is
down. -/
theorem invariantHoldsAtReset : Obligations.InvariantHoldsAtReset :=
  ⟨sessionStart_inv SessionCfg.first_legal, Dec.powerOn_inv, nofun, nofun⟩

/-- Settles O56: in P_IDLE the order says that no transaction has begun, and the trace is empty. -/
theorem transactionOrderHoldsAtReset : Obligations.TransactionOrderHoldsAtReset :=
  (transactionOrder_beforeEntry (.inl rfl)).mpr rfl

end Sys2Proof.Machine
end

section
/-! PROOF. Every fair session ends (R831). `Seq.turnsLeft` measures what a session still has before it: every step of a
run lowers it or leaves SEQ as it is, and in a fair run SEQ does not stay as it is until its session is over. -/

namespace Sys2Proof.Machine

/-! ### What a session still has before it -/

/-- How many phases SEQ can still pass before a final one, with one for each flash read and each entry attempt that
can still come. The present entry attempt counts until its reply is read: P_ENTRY counts it in `seq.attempt` when it
begins (R561). -/
def Seq.phasesLeft (q : Seq) : Nat :=
  let reads := 2 * (q.cfg.addrSpaceSize.val - q.addr.toNat)
  match q.pc with
  | .doneOk | .doneErr => 0
  | .close => 1
  | .exit => 2
  | .csHigh => 3
  | .rdh => reads + 2
  | .rdl => reads + 3
  | .sig => reads + 4 + (3 - q.sigIdx.val)
  | .pe => reads + 8
  | .csLow => reads + 9
  | .speed => reads + 10
  | .cfg => reads + 11
  | .busSel => reads + 12
  | .entry => reads + 13 + (q.cfg.maxEntryAttempts - q.attempt) + if q.point = .start then 0 else 1
  | .opening => reads + 14 + q.cfg.maxEntryAttempts
  | .idle => reads + 15 + q.cfg.maxEntryAttempts

/-- How many turns a phase can still take after the present one: its write, then its reads (R551). -/
def Point.turnsLeft : Point → Nat
  | .start => 2
  | .awaitAck => 1
  | .awaitReply _ => 0

/-- What every move of SEQ lowers until its session is over. -/
def Seq.turnsLeft (q : Seq) : Nat := 3 * q.phasesLeft + q.point.turnsLeft

section
variable {q : Seq} {s t u : State} {step : StepId} {bs : List Byte}

/-- A phase with a transaction comes before the teardown. -/
theorem SeqInv.phasesLeft_of_transaction (h : SeqInv q) (ht : q.transaction ≠ none) : 3 ≤ q.phasesLeft := by
  cases hpc : q.pc <;> simp [Seq.transaction, hpc] at ht <;> simp only [Seq.phasesLeft, hpc]
  case rdh =>
    obtain ⟨ha, -⟩ := h.imageHigh hpc
    omega
  all_goals omega

/-- Between two words of the sweep, before its first and after its last (R570). -/
theorem phasesLeft_nextWord (hpc : q.pc = if q.addr.toNat < q.cfg.addrSpaceSize.val then .rdl else .csHigh) :
    q.phasesLeft ≤ 2 * (q.cfg.addrSpaceSize.val - q.addr.toNat) + 3 := by
  split at hpc <;> simp [Seq.phasesLeft, hpc]

/-- Outside P_ENTRY the phases left do not depend on the place inside the phase. -/
theorem phasesLeft_setPoint (hpc : q.pc ≠ .entry) (p : Point) (tr : List Event) :
    { q with point := p, trace := tr }.phasesLeft = q.phasesLeft := by
  cases h : q.pc
  case entry => exact absurd h hpc
  all_goals simp only [Seq.phasesLeft, h]

/-- In P_ENTRY the attempt that begins is counted in `seq.attempt` and still to be read (R561). -/
theorem phasesLeft_begins (hi : SeqInv q) (hp : q.point = .start) (tr : List Event) :
    { q with attempt := q.attempts, point := .awaitAck, trace := tr }.phasesLeft = q.phasesLeft := by
  by_cases hpc : q.pc = .entry
  · have hleft := hi.attemptLeft hpc hp
    simp only [Seq.phasesLeft, Seq.attempts, hpc, hp, if_true, reduceCtorEq, if_false]
    omega
  · rw [Seq.attempts, if_neg hpc]
    exact phasesLeft_setPoint hpc _ _

/-- Fewer phases are fewer turns, wherever in them SEQ stands. -/
theorem turnsLeft_lt_of_phasesLeft {q' : Seq} (h : q'.phasesLeft < q.phasesLeft) : q'.turnsLeft < q.turnsLeft := by
  have hpoint : q'.point.turnsLeft ≤ 2 := by cases q'.point <;> simp [Point.turnsLeft]
  simp only [Seq.turnsLeft]
  omega

/-! ### The moves of SEQ, one by one -/

/-- An error leaves at most the exit and the close (R711). -/
theorem raise_phasesLeft_le (s : State) (e : Err) : (s.raise e).seq.phasesLeft ≤ 2 := by
  rcases s.teardownPhase_cases with ⟨-, h⟩ | ⟨-, -, h⟩ | ⟨-, -, h⟩ <;> simp [Seq.phasesLeft, h]

theorem SeqInv.raise_turnsLeft_lt (h : SeqInv q) (ht : q.transaction ≠ none) (e : Err) :
    (u.raise e).seq.turnsLeft < q.turnsLeft :=
  turnsLeft_lt_of_phasesLeft ((raise_phasesLeft_le u e).trans_lt (h.phasesLeft_of_transaction ht))

theorem SeqInv.beginTx_turnsLeft_lt (h : SeqInv s.seq) (hw : s.seq.transaction = some (step, bs))
    (hp : s.seq.point = .start) :
    (beginTx step bs (s.setAttempt s.seq.attempts)).seq.turnsLeft < s.seq.turnsLeft := by
  rw [beginTx_eq]
  split
  · have hpoint : Point.awaitAck.turnsLeft < s.seq.point.turnsLeft := by rw [hp]; decide
    exact Nat.add_lt_add_of_le_of_lt (Nat.mul_le_mul_left 3 (phasesLeft_begins h hp _).le) hpoint
  · exact h.raise_turnsLeft_lt (by simp [hw]) _

theorem acknowledged_turnsLeft_lt (hf : q.framed ≠ none) (hp : q.point = .awaitAck) :
    { q with point := .awaitReply Param.ack }.turnsLeft < q.turnsLeft := by
  have hpoint : (Point.awaitReply Param.ack).turnsLeft < q.point.turnsLeft := by rw [hp]; decide
  exact Nat.add_lt_add_of_le_of_lt (Nat.mul_le_mul_left 3 (phasesLeft_setPoint (framed_not_entry hf) _ _).le) hpoint

theorem controls_phasesLeft_lt {c : Byte} {expected : List Byte} {next : Phase} {tr : List Event}
    (h : q.control = some (step, c, expected, next)) :
    { q with pc := next, point := .start, trace := tr }.phasesLeft < q.phasesLeft := by
  cases hpc : q.pc <;> simp only [Seq.control, hpc] at h <;> cases h <;> simp [Seq.phasesLeft, hpc]

theorem SeqInv.checkSig_turnsLeft_lt {i : Fin 3} {b : Byte} {e : Event} (h : SeqInv s.seq) (hpc : s.seq.pc = .sig)
    (hi : s.seq.sigIdx.val = i.val) : (Machine.checkSig i b (s.emit e)).seq.turnsLeft < s.seq.turnsLeft := by
  unfold Machine.checkSig
  split
  · exact h.raise_turnsLeft_lt (by simp [Seq.transaction, hpc, hi]) _
  · refine turnsLeft_lt_of_phasesLeft ?_
    obtain ⟨-, haddr⟩ := h.imageEmpty (by simp [hpc, Phase.beforeSweep])
    have hsig : s.seq.phasesLeft = 2 * (s.seq.cfg.addrSpaceSize.val - s.seq.addr.toNat) + 4 + (3 - i.val) := by
      simp only [Seq.phasesLeft, hpc, hi]
    rw [afterSig_seq i (s := ((s.emit e).setSigGot i b).setSigIdx i.succ) haddr, hsig]
    split
    case isTrue hi2 =>
      change 2 * (s.seq.cfg.addrSpaceSize.val - s.seq.addr.toNat) + 4 + (3 - (i.val + 1)) < _
      omega
    case isFalse =>
      refine (phasesLeft_nextWord (by simp [haddr])).trans_lt ?_
      change 2 * (s.seq.cfg.addrSpaceSize.val - s.seq.addr.toNat) + 3 < _
      omega

theorem SeqInv.readsHigh_phasesLeft_lt {b : Byte} {e : Event} (h : SeqInv s.seq) (hpc : s.seq.pc = .rdh) :
    (advanceSweep (((s.emit e).imgAppend b).setAddr (s.seq.addr + 1))).seq.phasesLeft < s.seq.phasesLeft := by
  obtain ⟨ha, -⟩ := h.imageHigh hpc
  have hnext := addr_succ_toNat ha
  have hrdh : s.seq.phasesLeft = 2 * (s.seq.cfg.addrSpaceSize.val - s.seq.addr.toNat) + 2 := by
    simp only [Seq.phasesLeft, hpc]
  rw [advanceSweep_eq, hrdh]
  refine (phasesLeft_nextWord rfl).trans_lt ?_
  change 2 * (s.seq.cfg.addrSpaceSize.val - (s.seq.addr + 1).toNat) + 3 < _
  omega

/-- A link found down in P_EXIT leaves the close at most: the exit sequence counts as sent (R572, R711). -/
theorem exitsLost_phasesLeft_lt {e : Event} {err : Err} (hpc : s.seq.pc = .exit) :
    (((s.setExitCount (s.seq.exitCount + 1)).emit e).raise err).seq.phasesLeft < s.seq.phasesLeft := by
  rcases ((s.setExitCount (s.seq.exitCount + 1)).emit e).teardownPhase_cases with ⟨-, h⟩ | ⟨-, hx, -⟩ | ⟨-, -, h⟩
  · simp [Seq.phasesLeft, hpc, h]
  · cases hx
  · simp [Seq.phasesLeft, hpc, h]

/-- A further entry attempt follows one whose reply has been read (R561). -/
theorem entersAgain_phasesLeft_lt {tr : List Event} (hpc : q.pc = .entry) (hp : q.point ≠ .start) :
    { q with pc := .entry, point := .start, trace := tr }.phasesLeft < q.phasesLeft := by
  simp [Seq.phasesLeft, hpc, hp]

/-- Every turn of SEQ but the one that begins a transaction moves SEQ on, or leaves it in its read. -/
theorem SeqStep.turnsLeft_lt (st : SeqStep s t) (hi : SeqInv s.seq) (ho : s.sessionOver = false)
    (hread : s.seq.transaction ≠ none → s.seq.point ≠ .start) :
    t.seq.turnsLeft < s.seq.turnsLeft ∨ (t.seq = s.seq ∧ s.seq.point ≠ .start) := by
  cases st with
  | holds hw hp => exact .inr ⟨rfl, hp⟩
  | rests h | restarts h => simp [ho] at h
  | begins hw hp | beginsLost hw hp => exact absurd hp (hread (by simp [hw]))
  | readsLost hw | replyFails hw => exact .inl (hi.raise_turnsLeft_lt (by simp [hw]) _)
  | acknowledged hf hp => exact .inl (acknowledged_turnsLeft_lt hf hp)
  | controls hc => exact .inl (turnsLeft_lt_of_phasesLeft (controls_phasesLeft_lt hc))
  | @signs _ _ _ d k hpc hidx =>
    exact .inl (SeqInv.checkSig_turnsLeft_lt (s := s.took d k) hi hpc hidx)
  | @readsHigh _ _ d k hpc =>
    exact .inl (turnsLeft_lt_of_phasesLeft (SeqInv.readsHigh_phasesLeft_lt (s := s.took d k) hi hpc))
  | exitsLost hpc => exact .inl (turnsLeft_lt_of_phasesLeft (exitsLost_phasesLeft_lt hpc))
  | entersAgain hpc =>
    have hp := hread (by simp [Seq.transaction, hpc])
    exact .inl (turnsLeft_lt_of_phasesLeft (entersAgain_phasesLeft_lt hpc hp))
  | openFails hpc =>
    have hopening : 3 ≤ s.seq.phasesLeft := by
      simp only [Seq.phasesLeft, hpc]
      omega
    exact .inl (turnsLeft_lt_of_phasesLeft ((raise_phasesLeft_le _ _).trans_lt hopening))
  | starts hpc | opens hpc | enters hpc | enables hpc | readsLow hpc | exits hpc | publishes hpc | closes hpc =>
    refine .inl (turnsLeft_lt_of_phasesLeft ?_)
    simp [Seq.phasesLeft, hpc] <;> omega

theorem seqTurn_turnsLeft_lt (hi : SeqInv s.seq) (ho : s.sessionOver = false) (ht : seqTurn s = .next t) :
    t.seq.turnsLeft < s.seq.turnsLeft ∨ (t.seq = s.seq ∧ s.seq.point ≠ .start) := by
  by_cases hread : s.seq.transaction ≠ none → s.seq.point ≠ .start
  · exact (seqTurn_step ht).turnsLeft_lt hi ho hread
  · obtain ⟨hsome, hstart⟩ := Classical.not_imp.mp hread
    obtain ⟨⟨step, bs⟩, hw⟩ := Option.ne_none_iff_exists'.mp hsome
    have hp := not_not.mp hstart
    cases (seqTurn_begins hw hp).symm.trans ht
    exact .inl (hi.beginTx_turnsLeft_lt hw hp)

end

/-! ### Fair runs (R831) -/

section
variable {s t : State} {r : Nat → State} {k j : Nat}

/-- A step of the machine moves SEQ on or leaves it where it is; SEQ's own step leaves it there in a read only. -/
theorem step_turnsLeft_lt (hi : SeqInv s.seq) (ho : s.sessionOver = false) (hstep : step s = .next t) :
    t.seq.turnsLeft < s.seq.turnsLeft ∨ (t.seq = s.seq ∧ (s.turn = .seq → s.seq.point ≠ .start)) := by
  obtain ⟨u, hu, rfl⟩ := step_next hstep
  change u.seq.turnsLeft < s.seq.turnsLeft ∨ (u.seq = s.seq ∧ (s.turn = .seq → s.seq.point ≠ .start))
  unfold agentTurn at hu
  cases hturn : s.turn <;> rw [hturn] at hu
  case seq => exact (seqTurn_turnsLeft_lt hi ho hu).imp_right fun ⟨hseq, hp⟩ => ⟨hseq, fun _ => hp⟩
  case dec =>
    obtain ⟨hseq, -, -⟩ := decTurn_frame hu
    exact .inr ⟨hseq, nofun⟩
  case link =>
    cases hu
    exact .inr ⟨rfl, nofun⟩

/-- Until its session is over a run with the invariant goes on, and keeps it. -/
theorem IsRun.succ_turnsLeft_lt (hr : IsRun r) (hi : Inv (r k)) (ho : (r k).sessionOver = false) :
    Inv (r (k + 1)) ∧ ((r (k + 1)).seq.turnsLeft < (r k).seq.turnsLeft ∨
      ((r (k + 1)).seq = (r k).seq ∧ ((r k).turn = .seq → (r k).seq.point ≠ .start))) := by
  rcases machineStopsOnlyAtTheEndOfARun (r k) hi with ⟨u, hstep⟩ | ⟨-, hpc, -⟩
  · obtain ⟨hseq, hdec, hsessions, hlink⟩ := everyStepKeepsTheInvariant _ _ hi hstep
    obtain ⟨who, hnext⟩ := hr.next hstep
    have hmove := step_turnsLeft_lt hi.seq ho hstep
    rw [hnext]
    exact ⟨⟨hseq, hdec, hsessions, hlink⟩, hmove⟩
  · rcases hpc with hpc | hpc <;> simp [State.sessionOver, hpc] at ho

theorem sessionOver_of_seq_eq (h : t.seq = s.seq) : t.sessionOver = s.sessionOver := by
  rw [State.sessionOver, State.sessionOver, h]

/-- At some time from k on SEQ is nearer to a final phase than at time k, and the invariant holds. -/
def MovesOn (r : Nat → State) (k : Nat) : Prop :=
  ∃ j, k ≤ j ∧ Inv (r j) ∧ (r j).seq.turnsLeft < (r k).seq.turnsLeft

/-- Up to any later time SEQ has stood still or moved on. -/
theorem IsRun.same_or_movesOn (hr : IsRun r) (hi : Inv (r k)) (ho : (r k).sessionOver = false) (hj : k ≤ j) :
    (Inv (r j) ∧ (r j).seq = (r k).seq) ∨ MovesOn r k := by
  induction j, hj using Nat.le_induction with
  | base => exact .inl ⟨hi, rfl⟩
  | succ j hj ih =>
    rcases ih with ⟨hij, hseq⟩ | hmoves
    · have hoj : (r j).sessionOver = false := (sessionOver_of_seq_eq hseq).trans ho
      obtain ⟨hnext, hlt | ⟨hsame, -⟩⟩ := hr.succ_turnsLeft_lt hij hoj
      · exact .inr ⟨j + 1, by omega, hnext, by rwa [hseq] at hlt⟩
      · exact .inl ⟨hnext, hsame.trans hseq⟩
    · exact .inr hmoves

/-- In a fair run SEQ moves on: out of a read since the read completes, and otherwise at its own next step. -/
theorem Fair.movesOn (hf : Fair r) (hr : IsRun r) (hi : Inv (r k)) (ho : (r k).sessionOver = false) : MovesOn r k := by
  by_cases hp : (r k).seq.point = .start
  · obtain ⟨j, hj, hturn⟩ := hf.seq k hp ho
    rcases hr.same_or_movesOn hi ho hj with ⟨hij, hseq⟩ | hmoves
    · have hoj : (r j).sessionOver = false := (sessionOver_of_seq_eq hseq).trans ho
      obtain ⟨hnext, hlt | ⟨-, hread⟩⟩ := hr.succ_turnsLeft_lt hij hoj
      · exact ⟨j + 1, by omega, hnext, by rwa [hseq] at hlt⟩
      · exact absurd (hseq ▸ hp) (hread hturn)
    · exact hmoves
  · obtain ⟨j, hj, hne⟩ := hf.read k hp
    exact (hr.same_or_movesOn hi ho hj).resolve_left fun ⟨_, hseq⟩ => hne hseq

end

/-- Settles O60, by induction on the turns left: a fair run moves SEQ on until its session is over. -/
theorem everyFairSessionEnds : Obligations.EveryFairSessionEnds := by
  intro r a hr hf hi
  induction hn : (r a).seq.turnsLeft using Nat.strong_induction_on generalizing a with
  | _ n ih =>
    cases ho : (r a).sessionOver
    case true => exact ⟨a, le_refl a, ho⟩
    case false =>
      obtain ⟨j, hj, hij, hlt⟩ := hf.movesOn hr hi ho
      obtain ⟨k, hk, hover⟩ := ih _ (hn ▸ hlt) j hij rfl
      exact ⟨k, hj.trans hk, hover⟩

end Sys2Proof.Machine
end
